-- ==== Sys2Proof/Word.lean ====
section
/-! DEFINITION. The two word types of the machine: XLEN = 8 and ALEN = 16 (00_scope R4, R5). -/

namespace Sys2Proof

/-- A byte: every register but `PC`, and every data access (R4 `XLEN`). -/
abbrev Byte := BitVec 8

/-- A 16-bit address: `PC` and every memory address (R4 `ALEN`). -/
abbrev Addr := BitVec 16

end Sys2Proof
end

