-- ==== Sys2Proof/Config.lean ====
section
/-! DEFINITION. What every machine of this spec has in common (00_scope R4, fixed and decided values), and the free values:
what the spec leaves without a value. The parameters R4 leaves open are arguments of the model, in Machine/Params.lean. -/

namespace Sys2Proof.Config

/-- What the byte at an address reads as before anything has written it (R39, D3, U4): a free value, one per address.
It has no body, so no proof can know it. Safe: log entry 1. -/
opaque unwrittenByte : Addr → Byte

/-- The correction of ADC under the parameter `DEC_ADC = other` (R4, U9): any function. Log entry 14. -/
opaque otherDecAdc : Byte → Byte → Bool → Byte × Bool

/-- The correction of SBC under the parameter `DEC_SBC = other` (R4, U9): any function. Log entry 14. -/
opaque otherDecSbc : Byte → Byte → Bool → Byte

/-- The two fallbacks for an undefined opcode (R4 `UNDEF_MODE`). -/
inductive UndefMode where
  /-- An undefined opcode is a no-op of its descriptor's length (R230). -/
  | nop
  /-- The composite the source names and does not define (R232): a model refuses it. -/
  | undocumented
  deriving DecidableEq, Repr

/-- `UNDEF_MODE`, decided `nop` (D9). Log entry 13. -/
def undefMode : UndefMode := .nop

/-- High byte of `STACK_BASE` = 0x0100 (R4, R21). -/
def stackPage : Byte := 0x01

/-- `SP_RESET` (R4, R300). -/
def spReset : Byte := 0xFD

/-- `VEC_NMI`, address of the vector's low byte (R4, R57). -/
def vecNmi : Addr := 0xFFFA

/-- `VEC_RESET`, address of the vector's low byte (R4, R57). -/
def vecReset : Addr := 0xFFFC

/-- `VEC_IRQ`, address of the vector's low byte, shared by BRK (R4, R57). -/
def vecIrq : Addr := 0xFFFE

end Sys2Proof.Config
end

