-- ==== Sys2Proof/Modes.lean ====
section
/-! DEFINITION. The addressing modes, an instruction's operand in each mode, and the mnemonics (30_encoding R80 to R84). -/

namespace Sys2Proof

/-- The 13 addressing modes (R84, R100). -/
inductive Mode where
  | imp | acc | imm | zp | zpx | zpy | rel | abs | absx | absy | ind | indx | indy
  deriving DecidableEq, Repr

/-- An addressing mode with the operand bytes it decodes (R82). Two operand bytes are one 16-bit value, low byte first. -/
inductive Operand where
  /-- No operand (R101). -/
  | imp
  /-- The accumulator (R102). -/
  | acc
  /-- `#$nn`: the byte itself (R103). -/
  | imm (b : Byte)
  /-- `$nn` (R104). -/
  | zp (b : Byte)
  /-- `$nn,X` (R105). -/
  | zpx (b : Byte)
  /-- `$nn,Y` (R106). -/
  | zpy (b : Byte)
  /-- A branch's signed offset (R107). -/
  | rel (b : Byte)
  /-- `$nnnn` (R108). -/
  | abs (w : Addr)
  /-- `$nnnn,X` (R109). -/
  | absx (w : Addr)
  /-- `$nnnn,Y` (R110). -/
  | absy (w : Addr)
  /-- `($nnnn)` (R111). -/
  | ind (w : Addr)
  /-- `($nn,X)` (R112). -/
  | indx (b : Byte)
  /-- `($nn),Y` (R113). -/
  | indy (b : Byte)
  deriving DecidableEq, Repr

/-- The mode of an operand. -/
def Operand.mode : Operand → Mode
  | .imp => .imp
  | .acc => .acc
  | .imm _ => .imm
  | .zp _ => .zp
  | .zpx _ => .zpx
  | .zpy _ => .zpy
  | .rel _ => .rel
  | .abs _ => .abs
  | .absx _ => .absx
  | .absy _ => .absy
  | .ind _ => .ind
  | .indx _ => .indx
  | .indy _ => .indy

/-- The 56 mnemonics (R84) and `UND`, the undefined opcodes (R85). -/
inductive Mnemonic where
  | lda | ldx | ldy | sta | stx | sty | tax | tay | txa | tya
  | tsx | txs | pha | php | pla | plp | adc | sbc | cmp | cpx
  | cpy | inc | inx | iny | dec | dex | dey | and | ora | eor
  | bit | asl | lsr | rol | ror | jmp | jsr | rts | bcc | bcs
  | beq | bne | bmi | bpl | bvc | bvs | clc | sec | cli | sei
  | clv | cld | sed | nop | brk | rti | und
  deriving DecidableEq, Repr

end Sys2Proof
end

