-- ==== Sys2Proof/Machine/Params.lean ====
section
/-! DEFINITION. The parameters of the model (00_scope R4, the end of 92_eei_decisions; 10_state R37) as plain data, and the
values the spec gives as defaults. State holds them, no step changes them, and every statement is about all their values
unless it says otherwise (log entry 23). -/

namespace Sys2Proof

/-- `UNDEF_DESC` (R231): the undefined opcodes of each listed mode. -/
abbrev UndefDesc := List (Mode × List Nat)

/-- The mode an `UNDEF_DESC` gives an undefined opcode: that of the first row listing it, and imp where no row does (log
entry 23; the default lists all 105). -/
def modeIn : UndefDesc → Nat → Mode
  | [], _ => .imp
  | (m, ops) :: rest, n => if ops.contains n then m else modeIn rest n

/-- Where decimal `A` (and for ADC, C) come from: `DEC_ADC`, `DEC_SBC` (R4, R153, R154). -/
inductive DecimalRule where
  /-- The spec's `DecAdc` and `DecSbc` (D10, D11). -/
  | nibble
  /-- Any other function: `Config.otherDecAdc`, `Config.otherDecSbc`. -/
  | other
  deriving DecidableEq, Repr

/-- Which byte decimal ADC and SBC take Z, N and V from (R153; the end of 92_eei_decisions). -/
inductive SumSource where
  /-- The binary sum (D10, D11). -/
  | binary
  /-- The corrected result (log entry 14). -/
  | corrected
  deriving DecidableEq, Repr

/-- The open parameters of R4 and those 92_eei_decisions keeps as arguments. The three platform addresses are with the host's
side of State, the metadata addresses come with the event that reads them (log entry 5). -/
structure Params where
  /-- `UNDEF_DESC`. -/
  undefDesc : UndefDesc
  /-- `CYCLES`: row is the opcode's high nibble, column its low nibble (R311). -/
  cycles : List (List Nat)
  /-- `CNT_WIDTH`: the bits of the two counters, or none for unbounded ones (R32). -/
  cntWidth : Option Nat
  /-- `BP_CAPACITY`: the slots of the breakpoint table, or none for an unbounded one (R35). -/
  bpCapacity : Option Nat
  /-- `IRQ_RESPECTS_I` (R245). -/
  irqRespectsI : Bool
  /-- `DEC_ADC`. -/
  decAdc : DecimalRule
  /-- `DEC_SBC`. -/
  decSbc : DecimalRule
  /-- The source of Z, N and V in decimal mode. -/
  decFlags : SumSource
  deriving DecidableEq, Repr

/-- The 105 opcode values without a documented row (R85), by the opcode's high nibble. -/
def undefinedOpcodes : List Nat :=
  [0x02, 0x03, 0x04, 0x07, 0x0B, 0x0C, 0x0F] ++ [0x12, 0x13, 0x14, 0x17, 0x1A, 0x1B, 0x1C, 0x1F] ++
  [0x22, 0x23, 0x27, 0x2B, 0x2F] ++ [0x32, 0x33, 0x34, 0x37, 0x3A, 0x3B, 0x3C, 0x3F] ++
  [0x42, 0x43, 0x44, 0x47, 0x4B, 0x4F] ++ [0x52, 0x53, 0x54, 0x57, 0x5A, 0x5B, 0x5C, 0x5F] ++
  [0x62, 0x63, 0x64, 0x67, 0x6B, 0x6F] ++ [0x72, 0x73, 0x74, 0x77, 0x7A, 0x7B, 0x7C, 0x7F] ++
  [0x80, 0x82, 0x83, 0x87, 0x89, 0x8B, 0x8F] ++ [0x92, 0x93, 0x97, 0x9B, 0x9C, 0x9E, 0x9F] ++
  [0xA3, 0xA7, 0xAB, 0xAF] ++ [0xB2, 0xB3, 0xB7, 0xBB, 0xBF] ++
  [0xC2, 0xC3, 0xC7, 0xCB, 0xCF] ++ [0xD2, 0xD3, 0xD4, 0xD7, 0xDA, 0xDB, 0xDC, 0xDF] ++
  [0xE2, 0xE3, 0xE7, 0xEB, 0xEF] ++ [0xF2, 0xF3, 0xF4, 0xF7, 0xFA, 0xFB, 0xFC, 0xFF]

/-- The default `UNDEF_DESC` (R231). -/
def defaultUndefDesc : UndefDesc :=
  [(.imp, [0x02, 0x12, 0x1A, 0x22, 0x32, 0x3A, 0x42, 0x52, 0x5A, 0x62, 0x72, 0x7A, 0x92, 0xB2, 0xD2, 0xDA, 0xF2, 0xFA]),
   (.imm, [0x0B, 0x2B, 0x4B, 0x6B, 0x80, 0x82, 0x89, 0x8B, 0xAB, 0xC2, 0xCB, 0xE2, 0xEB]),
   (.zp, [0x04, 0x07, 0x27, 0x44, 0x47, 0x64, 0x67, 0x87, 0xA7, 0xC7, 0xE7]),
   (.zpx, [0x14, 0x17, 0x34, 0x37, 0x54, 0x57, 0x74, 0x77, 0xD4, 0xD7, 0xF4, 0xF7]),
   (.zpy, [0x97, 0xB7]),
   (.abs, [0x0C, 0x0F, 0x2F, 0x4F, 0x6F, 0x8F, 0xAF, 0xCF, 0xEF]),
   (.absx, [0x1C, 0x1F, 0x3C, 0x3F, 0x5C, 0x5F, 0x7C, 0x7F, 0x9C, 0xDC, 0xDF, 0xFC, 0xFF]),
   (.absy, [0x1B, 0x3B, 0x5B, 0x7B, 0x9B, 0x9E, 0x9F, 0xBB, 0xBF, 0xDB, 0xFB]),
   (.indx, [0x03, 0x23, 0x43, 0x63, 0x83, 0xA3, 0xC3, 0xE3]),
   (.indy, [0x13, 0x33, 0x53, 0x73, 0x93, 0xB3, 0xD3, 0xF3])]

/-- The default `CYCLES`, row by row (R311). -/
def defaultCycles : List (List Nat) :=
  [[7, 6, 2, 6, 3, 3, 5, 3, 3, 2, 2, 2, 4, 4, 6, 4],
   [2, 5, 2, 5, 4, 4, 6, 4, 2, 4, 2, 4, 4, 4, 7, 4],
   [6, 6, 2, 6, 3, 3, 5, 3, 4, 2, 2, 2, 4, 4, 6, 4],
   [2, 5, 2, 5, 4, 4, 6, 4, 2, 4, 2, 4, 4, 4, 7, 4],
   [6, 6, 2, 6, 3, 3, 5, 3, 3, 2, 2, 2, 3, 4, 6, 4],
   [2, 5, 2, 5, 4, 4, 6, 4, 2, 4, 2, 4, 4, 4, 7, 4],
   [6, 6, 2, 6, 3, 3, 5, 3, 4, 2, 2, 2, 5, 4, 6, 4],
   [2, 5, 2, 5, 4, 4, 6, 4, 2, 4, 2, 4, 4, 4, 7, 4],
   [2, 6, 2, 6, 3, 3, 3, 3, 2, 2, 2, 2, 4, 4, 4, 4],
   [2, 6, 2, 5, 4, 4, 4, 4, 2, 5, 2, 4, 4, 5, 4, 4],
   [2, 6, 2, 6, 3, 3, 3, 3, 2, 2, 2, 2, 4, 4, 4, 4],
   [2, 5, 2, 5, 4, 4, 4, 4, 2, 4, 2, 4, 4, 4, 4, 4],
   [2, 6, 2, 6, 3, 3, 5, 3, 2, 2, 2, 2, 4, 4, 6, 4],
   [2, 5, 2, 5, 4, 4, 6, 4, 2, 4, 2, 4, 4, 4, 7, 4],
   [2, 6, 2, 6, 3, 3, 5, 3, 2, 2, 2, 2, 4, 4, 6, 4],
   [2, 5, 2, 5, 4, 4, 6, 4, 2, 4, 2, 4, 4, 4, 7, 4]]

/-- The parameters at the values the spec decides or gives as defaults (R4; D10, D11, D13, D18, D20). -/
def defaultParams : Params where
  undefDesc := defaultUndefDesc
  cycles := defaultCycles
  cntWidth := none
  bpCapacity := none
  irqRespectsI := false
  decAdc := .nibble
  decSbc := .nibble
  decFlags := .binary

end Sys2Proof
end

