-- ==== Sys2Proof/Syntax.lean ====
section
/-! DEFINITION. The instructions: one constructor per mnemonic of spec/opcode_table.json, its rows told apart by the
operand's mode (log entry 9). A term is an instruction only if it is well formed (WellFormed.lean). -/

namespace Sys2Proof

/-- An instruction. -/
inductive Instr where
  /-- LDA, load accumulator (R120). -/
  | lda (o : Operand)
  /-- LDX, load X (R121). -/
  | ldx (o : Operand)
  /-- LDY, load Y (R122). -/
  | ldy (o : Operand)
  /-- STA, store accumulator (R123). -/
  | sta (o : Operand)
  /-- STX, store X (R124). -/
  | stx (o : Operand)
  /-- STY, store Y (R125). -/
  | sty (o : Operand)
  /-- TAX, A to X (R126). -/
  | tax
  /-- TAY, A to Y (R127). -/
  | tay
  /-- TXA, X to A (R128). -/
  | txa
  /-- TYA, Y to A (R129). -/
  | tya
  /-- TSX, SP to X (R130). -/
  | tsx
  /-- TXS, X to SP (R131). -/
  | txs
  /-- PHA, push A (R140). -/
  | pha
  /-- PHP, push P (R141). -/
  | php
  /-- PLA, pull A (R142). -/
  | pla
  /-- PLP, pull P (R143). -/
  | plp
  /-- ADC, add with carry (R151). -/
  | adc (o : Operand)
  /-- SBC, subtract with borrow (R152). -/
  | sbc (o : Operand)
  /-- CMP, compare accumulator (R156). -/
  | cmp (o : Operand)
  /-- CPX, compare X (R157). -/
  | cpx (o : Operand)
  /-- CPY, compare Y (R158). -/
  | cpy (o : Operand)
  /-- INC, increment memory (R159). -/
  | inc (o : Operand)
  /-- INX, increment X (R160). -/
  | inx
  /-- INY, increment Y (R161). -/
  | iny
  /-- DEC, decrement memory (R162). -/
  | dec (o : Operand)
  /-- DEX, decrement X (R163). -/
  | dex
  /-- DEY, decrement Y (R164). -/
  | dey
  /-- AND, bitwise and (R170). -/
  | and (o : Operand)
  /-- ORA, bitwise or (R171). -/
  | ora (o : Operand)
  /-- EOR, bitwise exclusive or (R172). -/
  | eor (o : Operand)
  /-- BIT, bit test (R173). -/
  | bit (o : Operand)
  /-- ASL, arithmetic shift left (R174). -/
  | asl (o : Operand)
  /-- LSR, logical shift right (R175). -/
  | lsr (o : Operand)
  /-- ROL, rotate left through carry (R176). -/
  | rol (o : Operand)
  /-- ROR, rotate right through carry (R177). -/
  | ror (o : Operand)
  /-- JMP, jump (R190). -/
  | jmp (o : Operand)
  /-- JSR, jump to subroutine (R191). -/
  | jsr (w : Addr)
  /-- RTS, return from subroutine (R192). -/
  | rts
  /-- BCC, branch if carry clear (R194). -/
  | bcc (off : Byte)
  /-- BCS, branch if carry set (R195). -/
  | bcs (off : Byte)
  /-- BEQ, branch if zero set (R196). -/
  | beq (off : Byte)
  /-- BNE, branch if zero clear (R197). -/
  | bne (off : Byte)
  /-- BMI, branch if minus (R198). -/
  | bmi (off : Byte)
  /-- BPL, branch if plus (R199). -/
  | bpl (off : Byte)
  /-- BVC, branch if overflow clear (R200). -/
  | bvc (off : Byte)
  /-- BVS, branch if overflow set (R201). -/
  | bvs (off : Byte)
  /-- CLC, clear carry (R210). -/
  | clc
  /-- SEC, set carry (R211). -/
  | sec
  /-- CLI, clear interrupt-disable (R212). -/
  | cli
  /-- SEI, set interrupt-disable (R213). -/
  | sei
  /-- CLV, clear overflow (R214). -/
  | clv
  /-- CLD, clear decimal (R215). -/
  | cld
  /-- SED, set decimal (R216). -/
  | sed
  /-- NOP, no operation (R217). -/
  | nop
  /-- BRK, software interrupt (R218). -/
  | brk
  /-- RTI, return from interrupt (R219). -/
  | rti
  /-- UND, an undefined opcode, kept with its operand (R230). -/
  | und (op : Byte) (o : Operand)
  deriving DecidableEq, Repr

/-- The mnemonic of an instruction. -/
def Instr.mnemonic : Instr → Mnemonic
  | .lda _ => .lda
  | .ldx _ => .ldx
  | .ldy _ => .ldy
  | .sta _ => .sta
  | .stx _ => .stx
  | .sty _ => .sty
  | .tax => .tax
  | .tay => .tay
  | .txa => .txa
  | .tya => .tya
  | .tsx => .tsx
  | .txs => .txs
  | .pha => .pha
  | .php => .php
  | .pla => .pla
  | .plp => .plp
  | .adc _ => .adc
  | .sbc _ => .sbc
  | .cmp _ => .cmp
  | .cpx _ => .cpx
  | .cpy _ => .cpy
  | .inc _ => .inc
  | .inx => .inx
  | .iny => .iny
  | .dec _ => .dec
  | .dex => .dex
  | .dey => .dey
  | .and _ => .and
  | .ora _ => .ora
  | .eor _ => .eor
  | .bit _ => .bit
  | .asl _ => .asl
  | .lsr _ => .lsr
  | .rol _ => .rol
  | .ror _ => .ror
  | .jmp _ => .jmp
  | .jsr _ => .jsr
  | .rts => .rts
  | .bcc _ => .bcc
  | .bcs _ => .bcs
  | .beq _ => .beq
  | .bne _ => .bne
  | .bmi _ => .bmi
  | .bpl _ => .bpl
  | .bvc _ => .bvc
  | .bvs _ => .bvs
  | .clc => .clc
  | .sec => .sec
  | .cli => .cli
  | .sei => .sei
  | .clv => .clv
  | .cld => .cld
  | .sed => .sed
  | .nop => .nop
  | .brk => .brk
  | .rti => .rti
  | .und _ _ => .und

/-- The operand of an instruction: its mode and operand bytes. -/
def Instr.operand : Instr → Operand
  | .lda o => o
  | .ldx o => o
  | .ldy o => o
  | .sta o => o
  | .stx o => o
  | .sty o => o
  | .tax => .imp
  | .tay => .imp
  | .txa => .imp
  | .tya => .imp
  | .tsx => .imp
  | .txs => .imp
  | .pha => .imp
  | .php => .imp
  | .pla => .imp
  | .plp => .imp
  | .adc o => o
  | .sbc o => o
  | .cmp o => o
  | .cpx o => o
  | .cpy o => o
  | .inc o => o
  | .inx => .imp
  | .iny => .imp
  | .dec o => o
  | .dex => .imp
  | .dey => .imp
  | .and o => o
  | .ora o => o
  | .eor o => o
  | .bit o => o
  | .asl o => o
  | .lsr o => o
  | .rol o => o
  | .ror o => o
  | .jmp o => o
  | .jsr w => .abs w
  | .rts => .imp
  | .bcc off => .rel off
  | .bcs off => .rel off
  | .beq off => .rel off
  | .bne off => .rel off
  | .bmi off => .rel off
  | .bpl off => .rel off
  | .bvc off => .rel off
  | .bvs off => .rel off
  | .clc => .imp
  | .sec => .imp
  | .cli => .imp
  | .sei => .imp
  | .clv => .imp
  | .cld => .imp
  | .sed => .imp
  | .nop => .imp
  | .brk => .imp
  | .rti => .imp
  | .und _ o => o

/-- The opcode byte an undefined opcode carries; none for a documented instruction. -/
def Instr.undOpcode : Instr → Option Byte
  | .und op _ => some op
  | _ => none

end Sys2Proof
end

