-- ==== Sys2Proof/WellFormed.lean ====
section
/-! DEFINITION. Which terms of Instr are instructions: the rows of the opcode map (30_encoding R84, second table) and the
undefined opcodes (R85), each in whatever mode `UNDEF_DESC` gives it (47_undefined_opcodes R231). Every decoded instruction is
well formed; a term that is not is no instruction of the hardware, and exec refuses it (log entry 10). -/

namespace Sys2Proof

/-- The modes in which a mnemonic has an opcode (R84; for UND any, since `UNDEF_DESC` is a parameter). -/
def Mnemonic.modes : Mnemonic → List Mode
  | .lda => [.imm, .zp, .zpx, .abs, .absx, .absy, .indx, .indy]
  | .ldx => [.imm, .zp, .zpy, .abs, .absy]
  | .ldy => [.imm, .zp, .zpx, .abs, .absx]
  | .sta => [.zp, .zpx, .abs, .absx, .absy, .indx, .indy]
  | .stx => [.zp, .zpy, .abs]
  | .sty => [.zp, .zpx, .abs]
  | .tax => [.imp]
  | .tay => [.imp]
  | .txa => [.imp]
  | .tya => [.imp]
  | .tsx => [.imp]
  | .txs => [.imp]
  | .pha => [.imp]
  | .php => [.imp]
  | .pla => [.imp]
  | .plp => [.imp]
  | .adc => [.imm, .zp, .zpx, .abs, .absx, .absy, .indx, .indy]
  | .sbc => [.imm, .zp, .zpx, .abs, .absx, .absy, .indx, .indy]
  | .cmp => [.imm, .zp, .zpx, .abs, .absx, .absy, .indx, .indy]
  | .cpx => [.imm, .zp, .abs]
  | .cpy => [.imm, .zp, .abs]
  | .inc => [.zp, .zpx, .abs, .absx]
  | .inx => [.imp]
  | .iny => [.imp]
  | .dec => [.zp, .zpx, .abs, .absx]
  | .dex => [.imp]
  | .dey => [.imp]
  | .and => [.imm, .zp, .zpx, .abs, .absx, .absy, .indx, .indy]
  | .ora => [.imm, .zp, .zpx, .abs, .absx, .absy, .indx, .indy]
  | .eor => [.imm, .zp, .zpx, .abs, .absx, .absy, .indx, .indy]
  | .bit => [.zp, .abs]
  | .asl => [.acc, .zp, .zpx, .abs, .absx]
  | .lsr => [.acc, .zp, .zpx, .abs, .absx]
  | .rol => [.acc, .zp, .zpx, .abs, .absx]
  | .ror => [.acc, .zp, .zpx, .abs, .absx]
  | .jmp => [.abs, .ind]
  | .jsr => [.abs]
  | .rts => [.imp]
  | .bcc => [.rel]
  | .bcs => [.rel]
  | .beq => [.rel]
  | .bne => [.rel]
  | .bmi => [.rel]
  | .bpl => [.rel]
  | .bvc => [.rel]
  | .bvs => [.rel]
  | .clc => [.imp]
  | .sec => [.imp]
  | .cli => [.imp]
  | .sei => [.imp]
  | .clv => [.imp]
  | .cld => [.imp]
  | .sed => [.imp]
  | .nop => [.imp]
  | .brk => [.imp]
  | .rti => [.imp]
  | .und => [.imp, .acc, .imm, .zp, .zpx, .zpy, .rel, .abs, .absx, .absy, .ind, .indx, .indy]

/-- The instruction's mnemonic has an opcode in the operand's mode. -/
def Instr.modeLegal (i : Instr) : Bool := i.mnemonic.modes.contains i.operand.mode

/-- The byte a UND carries is an undefined opcode (R85); nothing to check for a documented instruction. -/
def Instr.undUndefined (i : Instr) : Bool :=
  match i.undOpcode with
  | some op => undefinedOpcodes.contains op.toNat
  | none => true

/-- The term is an instruction of the hardware. -/
def Instr.wf (i : Instr) : Bool := i.modeLegal && i.undUndefined

end Sys2Proof
end

