-- ==== Sys2Proof/Decode.lean ====
section
/-! DEFINITION. The decoder (30_encoding R80 to R86, R83 total) and the encoder, from the two tables of R84. The decoder reads
the 16 by 16 matrix, the encoder the table by mnemonic; the spec gives both. The mode of an undefined opcode is the parameter
`UNDEF_DESC` (R83, R231). -/

namespace Sys2Proof

/-- `{h, l}`: the 16-bit value with high byte `h` and low byte `l` (R5). -/
def word16 (h l : Byte) : Addr := h ++ l

/-- `lo(w)` = `w[7:0]` (R5). -/
def lo (w : Addr) : Byte := w.extractLsb' 0 8

/-- `hi(w)` = `w[15:8]` (R5). -/
def hi (w : Addr) : Byte := w.extractLsb' 8 8

/-- The operand bytes a mode takes: its length minus 1 (R81, R100). -/
def Mode.operandBytes : Mode → Nat
  | .imp | .acc => 0
  | .imm | .zp | .zpx | .zpy | .rel | .indx | .indy => 1
  | .abs | .absx | .absy | .ind => 2

/-- The length in bytes of an instruction of a mode (R81). -/
def Mode.length (m : Mode) : Nat := m.operandBytes + 1

/-- The operand a mode reads from the bytes after the opcode: `b1` and, low byte first, `{b2, b1}` (R82). -/
def Mode.operand (m : Mode) (b1 b2 : Byte) : Operand :=
  match m with
  | .imp => .imp
  | .acc => .acc
  | .imm => .imm b1
  | .zp => .zp b1
  | .zpx => .zpx b1
  | .zpy => .zpy b1
  | .rel => .rel b1
  | .abs => .abs (word16 b2 b1)
  | .absx => .absx (word16 b2 b1)
  | .absy => .absy (word16 b2 b1)
  | .ind => .ind (word16 b2 b1)
  | .indx => .indx b1
  | .indy => .indy b1

/-- The length in bytes of an instruction (R80, R81). -/
def Instr.length (i : Instr) : Nat := i.operand.mode.length

/-- A cell of the opcode map without a documented row (R85); its mode is `UNDEF_DESC`'s, not this one. -/
def undef : Mnemonic × Mode := (.und, .imp)

/-- Row 0x of the opcode map (R84). -/
def opcodeRow0 : List (Mnemonic × Mode) :=
  [(.brk, .imp), (.ora, .indx), undef, undef, undef, (.ora, .zp), (.asl, .zp), undef,
   (.php, .imp), (.ora, .imm), (.asl, .acc), undef, undef, (.ora, .abs), (.asl, .abs), undef]

/-- Row 1x of the opcode map (R84). -/
def opcodeRow1 : List (Mnemonic × Mode) :=
  [(.bpl, .rel), (.ora, .indy), undef, undef, undef, (.ora, .zpx), (.asl, .zpx), undef,
   (.clc, .imp), (.ora, .absy), undef, undef, undef, (.ora, .absx), (.asl, .absx), undef]

/-- Row 2x of the opcode map (R84). -/
def opcodeRow2 : List (Mnemonic × Mode) :=
  [(.jsr, .abs), (.and, .indx), undef, undef, (.bit, .zp), (.and, .zp), (.rol, .zp), undef,
   (.plp, .imp), (.and, .imm), (.rol, .acc), undef, (.bit, .abs), (.and, .abs), (.rol, .abs), undef]

/-- Row 3x of the opcode map (R84). -/
def opcodeRow3 : List (Mnemonic × Mode) :=
  [(.bmi, .rel), (.and, .indy), undef, undef, undef, (.and, .zpx), (.rol, .zpx), undef,
   (.sec, .imp), (.and, .absy), undef, undef, undef, (.and, .absx), (.rol, .absx), undef]

/-- Row 4x of the opcode map (R84). -/
def opcodeRow4 : List (Mnemonic × Mode) :=
  [(.rti, .imp), (.eor, .indx), undef, undef, undef, (.eor, .zp), (.lsr, .zp), undef,
   (.pha, .imp), (.eor, .imm), (.lsr, .acc), undef, (.jmp, .abs), (.eor, .abs), (.lsr, .abs), undef]

/-- Row 5x of the opcode map (R84). -/
def opcodeRow5 : List (Mnemonic × Mode) :=
  [(.bvc, .rel), (.eor, .indy), undef, undef, undef, (.eor, .zpx), (.lsr, .zpx), undef,
   (.cli, .imp), (.eor, .absy), undef, undef, undef, (.eor, .absx), (.lsr, .absx), undef]

/-- Row 6x of the opcode map (R84). -/
def opcodeRow6 : List (Mnemonic × Mode) :=
  [(.rts, .imp), (.adc, .indx), undef, undef, undef, (.adc, .zp), (.ror, .zp), undef,
   (.pla, .imp), (.adc, .imm), (.ror, .acc), undef, (.jmp, .ind), (.adc, .abs), (.ror, .abs), undef]

/-- Row 7x of the opcode map (R84). -/
def opcodeRow7 : List (Mnemonic × Mode) :=
  [(.bvs, .rel), (.adc, .indy), undef, undef, undef, (.adc, .zpx), (.ror, .zpx), undef,
   (.sei, .imp), (.adc, .absy), undef, undef, undef, (.adc, .absx), (.ror, .absx), undef]

/-- Row 8x of the opcode map (R84). -/
def opcodeRow8 : List (Mnemonic × Mode) :=
  [undef, (.sta, .indx), undef, undef, (.sty, .zp), (.sta, .zp), (.stx, .zp), undef,
   (.dey, .imp), undef, (.txa, .imp), undef, (.sty, .abs), (.sta, .abs), (.stx, .abs), undef]

/-- Row 9x of the opcode map (R84). -/
def opcodeRow9 : List (Mnemonic × Mode) :=
  [(.bcc, .rel), (.sta, .indy), undef, undef, (.sty, .zpx), (.sta, .zpx), (.stx, .zpy), undef,
   (.tya, .imp), (.sta, .absy), (.txs, .imp), undef, undef, (.sta, .absx), undef, undef]

/-- Row Ax of the opcode map (R84). -/
def opcodeRowA : List (Mnemonic × Mode) :=
  [(.ldy, .imm), (.lda, .indx), (.ldx, .imm), undef, (.ldy, .zp), (.lda, .zp), (.ldx, .zp), undef,
   (.tay, .imp), (.lda, .imm), (.tax, .imp), undef, (.ldy, .abs), (.lda, .abs), (.ldx, .abs), undef]

/-- Row Bx of the opcode map (R84). -/
def opcodeRowB : List (Mnemonic × Mode) :=
  [(.bcs, .rel), (.lda, .indy), undef, undef, (.ldy, .zpx), (.lda, .zpx), (.ldx, .zpy), undef,
   (.clv, .imp), (.lda, .absy), (.tsx, .imp), undef, (.ldy, .absx), (.lda, .absx), (.ldx, .absy), undef]

/-- Row Cx of the opcode map (R84). -/
def opcodeRowC : List (Mnemonic × Mode) :=
  [(.cpy, .imm), (.cmp, .indx), undef, undef, (.cpy, .zp), (.cmp, .zp), (.dec, .zp), undef,
   (.iny, .imp), (.cmp, .imm), (.dex, .imp), undef, (.cpy, .abs), (.cmp, .abs), (.dec, .abs), undef]

/-- Row Dx of the opcode map (R84). -/
def opcodeRowD : List (Mnemonic × Mode) :=
  [(.bne, .rel), (.cmp, .indy), undef, undef, undef, (.cmp, .zpx), (.dec, .zpx), undef,
   (.cld, .imp), (.cmp, .absy), undef, undef, undef, (.cmp, .absx), (.dec, .absx), undef]

/-- Row Ex of the opcode map (R84). -/
def opcodeRowE : List (Mnemonic × Mode) :=
  [(.cpx, .imm), (.sbc, .indx), undef, undef, (.cpx, .zp), (.sbc, .zp), (.inc, .zp), undef,
   (.inx, .imp), (.sbc, .imm), (.nop, .imp), undef, (.cpx, .abs), (.sbc, .abs), (.inc, .abs), undef]

/-- Row Fx of the opcode map (R84). -/
def opcodeRowF : List (Mnemonic × Mode) :=
  [(.beq, .rel), (.sbc, .indy), undef, undef, undef, (.sbc, .zpx), (.inc, .zpx), undef,
   (.sed, .imp), (.sbc, .absy), undef, undef, undef, (.sbc, .absx), (.inc, .absx), undef]

/-- The 16 by 16 opcode map: row is the opcode's high nibble, column its low nibble (R84, R85, R231). -/
def opcodeMap : List (List (Mnemonic × Mode)) :=
  [opcodeRow0, opcodeRow1, opcodeRow2, opcodeRow3, opcodeRow4, opcodeRow5, opcodeRow6, opcodeRow7,
   opcodeRow8, opcodeRow9, opcodeRowA, opcodeRowB, opcodeRowC, opcodeRowD, opcodeRowE, opcodeRowF]

/-- The documented cell of an opcode, or `undef` (R84, R85). -/
def mapCell (op : Byte) : Mnemonic × Mode :=
  (opcodeMap.getD (op.toNat / 16) []).getD (op.toNat % 16) undef

/-- The descriptor of an opcode (R83): its mnemonic and mode; its length is the mode's (R81). It depends on the opcode and the
parameter `UNDEF_DESC` only. -/
def descriptor (d : UndefDesc) (op : Byte) : Mnemonic × Mode :=
  match (mapCell op).1 with
  | .und => (.und, modeIn d op.toNat)
  | _ => mapCell op

/-- The instruction with opcode `op` and following bytes `b1`, `b2` (those its mode takes). Total: R83. -/
def instrOf (d : UndefDesc) (op b1 b2 : Byte) : Instr :=
  let o := (descriptor d op).2.operand b1 b2
  match (descriptor d op).1 with
  | .lda => .lda o
  | .ldx => .ldx o
  | .ldy => .ldy o
  | .sta => .sta o
  | .stx => .stx o
  | .sty => .sty o
  | .tax => .tax
  | .tay => .tay
  | .txa => .txa
  | .tya => .tya
  | .tsx => .tsx
  | .txs => .txs
  | .pha => .pha
  | .php => .php
  | .pla => .pla
  | .plp => .plp
  | .adc => .adc o
  | .sbc => .sbc o
  | .cmp => .cmp o
  | .cpx => .cpx o
  | .cpy => .cpy o
  | .inc => .inc o
  | .inx => .inx
  | .iny => .iny
  | .dec => .dec o
  | .dex => .dex
  | .dey => .dey
  | .and => .and o
  | .ora => .ora o
  | .eor => .eor o
  | .bit => .bit o
  | .asl => .asl o
  | .lsr => .lsr o
  | .rol => .rol o
  | .ror => .ror o
  | .jmp => .jmp o
  | .jsr => .jsr (word16 b2 b1)
  | .rts => .rts
  | .bcc => .bcc b1
  | .bcs => .bcs b1
  | .beq => .beq b1
  | .bne => .bne b1
  | .bmi => .bmi b1
  | .bpl => .bpl b1
  | .bvc => .bvc b1
  | .bvs => .bvs b1
  | .clc => .clc
  | .sec => .sec
  | .cli => .cli
  | .sei => .sei
  | .clv => .clv
  | .cld => .cld
  | .sed => .sed
  | .nop => .nop
  | .brk => .brk
  | .rti => .rti
  | .und => .und op o

/-- Why bytes are no instruction: there are too few of them. No opcode is illegal (R83, R85). -/
inductive DecodeError where
  /-- No opcode byte. -/
  | noOpcode
  /-- Fewer bytes follow the opcode than its mode takes. -/
  | operandCut
  deriving DecidableEq, Repr

/-- Decode the first instruction of a list of bytes and return it with the bytes after it. -/
def decode (d : UndefDesc) : List Byte → Except DecodeError (Instr × List Byte)
  | [] => .error .noOpcode
  | op :: rest =>
    if rest.length < (descriptor d op).2.operandBytes then .error .operandCut
    else .ok (instrOf d op (rest.getD 0 0) (rest.getD 1 0), rest.drop (descriptor d op).2.operandBytes)

/-- The opcodes of each mnemonic (R84, second table); an undefined opcode carries its own. -/
def Mnemonic.opcodes : Mnemonic → List (Mode × Byte)
  | .lda => [(.imm, 0xA9), (.zp, 0xA5), (.zpx, 0xB5), (.abs, 0xAD), (.absx, 0xBD), (.absy, 0xB9), (.indx, 0xA1), (.indy, 0xB1)]
  | .ldx => [(.imm, 0xA2), (.zp, 0xA6), (.zpy, 0xB6), (.abs, 0xAE), (.absy, 0xBE)]
  | .ldy => [(.imm, 0xA0), (.zp, 0xA4), (.zpx, 0xB4), (.abs, 0xAC), (.absx, 0xBC)]
  | .sta => [(.zp, 0x85), (.zpx, 0x95), (.abs, 0x8D), (.absx, 0x9D), (.absy, 0x99), (.indx, 0x81), (.indy, 0x91)]
  | .stx => [(.zp, 0x86), (.zpy, 0x96), (.abs, 0x8E)]
  | .sty => [(.zp, 0x84), (.zpx, 0x94), (.abs, 0x8C)]
  | .tax => [(.imp, 0xAA)]
  | .tay => [(.imp, 0xA8)]
  | .txa => [(.imp, 0x8A)]
  | .tya => [(.imp, 0x98)]
  | .tsx => [(.imp, 0xBA)]
  | .txs => [(.imp, 0x9A)]
  | .pha => [(.imp, 0x48)]
  | .php => [(.imp, 0x08)]
  | .pla => [(.imp, 0x68)]
  | .plp => [(.imp, 0x28)]
  | .adc => [(.imm, 0x69), (.zp, 0x65), (.zpx, 0x75), (.abs, 0x6D), (.absx, 0x7D), (.absy, 0x79), (.indx, 0x61), (.indy, 0x71)]
  | .sbc => [(.imm, 0xE9), (.zp, 0xE5), (.zpx, 0xF5), (.abs, 0xED), (.absx, 0xFD), (.absy, 0xF9), (.indx, 0xE1), (.indy, 0xF1)]
  | .cmp => [(.imm, 0xC9), (.zp, 0xC5), (.zpx, 0xD5), (.abs, 0xCD), (.absx, 0xDD), (.absy, 0xD9), (.indx, 0xC1), (.indy, 0xD1)]
  | .cpx => [(.imm, 0xE0), (.zp, 0xE4), (.abs, 0xEC)]
  | .cpy => [(.imm, 0xC0), (.zp, 0xC4), (.abs, 0xCC)]
  | .inc => [(.zp, 0xE6), (.zpx, 0xF6), (.abs, 0xEE), (.absx, 0xFE)]
  | .inx => [(.imp, 0xE8)]
  | .iny => [(.imp, 0xC8)]
  | .dec => [(.zp, 0xC6), (.zpx, 0xD6), (.abs, 0xCE), (.absx, 0xDE)]
  | .dex => [(.imp, 0xCA)]
  | .dey => [(.imp, 0x88)]
  | .and => [(.imm, 0x29), (.zp, 0x25), (.zpx, 0x35), (.abs, 0x2D), (.absx, 0x3D), (.absy, 0x39), (.indx, 0x21), (.indy, 0x31)]
  | .ora => [(.imm, 0x09), (.zp, 0x05), (.zpx, 0x15), (.abs, 0x0D), (.absx, 0x1D), (.absy, 0x19), (.indx, 0x01), (.indy, 0x11)]
  | .eor => [(.imm, 0x49), (.zp, 0x45), (.zpx, 0x55), (.abs, 0x4D), (.absx, 0x5D), (.absy, 0x59), (.indx, 0x41), (.indy, 0x51)]
  | .bit => [(.zp, 0x24), (.abs, 0x2C)]
  | .asl => [(.acc, 0x0A), (.zp, 0x06), (.zpx, 0x16), (.abs, 0x0E), (.absx, 0x1E)]
  | .lsr => [(.acc, 0x4A), (.zp, 0x46), (.zpx, 0x56), (.abs, 0x4E), (.absx, 0x5E)]
  | .rol => [(.acc, 0x2A), (.zp, 0x26), (.zpx, 0x36), (.abs, 0x2E), (.absx, 0x3E)]
  | .ror => [(.acc, 0x6A), (.zp, 0x66), (.zpx, 0x76), (.abs, 0x6E), (.absx, 0x7E)]
  | .jmp => [(.abs, 0x4C), (.ind, 0x6C)]
  | .jsr => [(.abs, 0x20)]
  | .rts => [(.imp, 0x60)]
  | .bcc => [(.rel, 0x90)]
  | .bcs => [(.rel, 0xB0)]
  | .beq => [(.rel, 0xF0)]
  | .bne => [(.rel, 0xD0)]
  | .bmi => [(.rel, 0x30)]
  | .bpl => [(.rel, 0x10)]
  | .bvc => [(.rel, 0x50)]
  | .bvs => [(.rel, 0x70)]
  | .clc => [(.imp, 0x18)]
  | .sec => [(.imp, 0x38)]
  | .cli => [(.imp, 0x58)]
  | .sei => [(.imp, 0x78)]
  | .clv => [(.imp, 0xB8)]
  | .cld => [(.imp, 0xD8)]
  | .sed => [(.imp, 0xF8)]
  | .nop => [(.imp, 0xEA)]
  | .brk => [(.imp, 0x00)]
  | .rti => [(.imp, 0x40)]
  | .und => []

/-- The opcode of a mode in a list of rows. -/
def findOpcode (m : Mode) : List (Mode × Byte) → Option Byte
  | [] => none
  | (k, op) :: rest => if k = m then some op else findOpcode m rest

/-- The opcode byte of a well-formed instruction (R84). A term that is not well formed has none: exec refuses it and `encode`
gives no bytes for it, so the 0 answered here for it is never used. -/
def Instr.opcode (i : Instr) : Byte :=
  match i.undOpcode with
  | some op => op
  | none => (findOpcode i.operand.mode i.mnemonic.opcodes).getD 0

/-- The operand bytes as they follow the opcode: low byte first (R80, R82). -/
def Operand.bytes : Operand → List Byte
  | .imp | .acc => []
  | .imm b | .zp b | .zpx b | .zpy b | .rel b | .indx b | .indy b => [b]
  | .abs w | .absx w | .absy w | .ind w => [lo w, hi w]

/-- The bytes of a well-formed instruction; none for a term that is not one. -/
def encode (i : Instr) : List Byte := if i.wf then i.opcode :: i.operand.bytes else []

/-- `UNDEF_DESC` gives a UND the mode it has, as it does for every decoded one; nothing to check for a documented
instruction. -/
def Instr.describedBy (d : UndefDesc) (i : Instr) : Prop :=
  ∀ op, i.undOpcode = some op → modeIn d op.toNat = i.operand.mode

/-- The bytes of a table word `w`, whose bits are numbered as the opcode table numbers them: byte `k`
is bits `8k+7 .. 8k`, the bits above `nbits` are zero. Bytes lie in the order of their numbers (R80). -/
def tableBytes (nbits w : Nat) : List Byte :=
  let v := w % 2 ^ nbits
  [BitVec.ofNat 8 v, BitVec.ofNat 8 (v / 256), BitVec.ofNat 8 (v / 65536)]

/-- The instruction the decoder reads from the bytes of a table word, with the default `UNDEF_DESC`, which the table's rows
have; none where it refuses. -/
def decodeTableWord (nbits w : Nat) : Option Instr :=
  match decode defaultUndefDesc (tableBytes nbits w) with
  | .ok (i, _) => some i
  | .error _ => none

end Sys2Proof
end

