-- ==== Sys2Proof/Machine/State.lean ====
section
/-! DEFINITION. The machine's state as plain data (10_state, 60_exceptions section 9), its state right after reset, and the
reasons a step can stop. INVENTORY.md lists every field with its rule and reset value. -/

namespace Sys2Proof.Machine

/-- The fields of `P` (R23). -/
inductive Flag where
  /-- Carry. -/
  | c
  /-- Zero. -/
  | z
  /-- Interrupt-disable. -/
  | i
  /-- Decimal. -/
  | d
  /-- Break, a stored bit (R28). -/
  | b
  /-- Constant, "unused, always 1" (R29). -/
  | u
  /-- Overflow. -/
  | v
  /-- Sign (Negative). -/
  | n
  deriving DecidableEq, Repr

/-- The states of the breakpoint and execution controller (R34, R270). -/
inductive Ctrl where
  /-- CPU stopped, commands accepted. -/
  | idle
  /-- A bounded number of instructions, one at a time. -/
  | steppingN
  /-- Unbounded execution. -/
  | continuous
  deriving DecidableEq, Repr

/-- An entry of the breakpoint table (R35). -/
structure Breakpoint where
  /-- The address; any 16-bit value (R271). -/
  address : Addr
  /-- Cleared by removal, never set again (R272). -/
  active : Bool
  deriving DecidableEq, Repr

/-- How a run ended (R281). -/
inductive Report where
  /-- The count ran out. -/
  | stepDone
  /-- Halted before an instruction, on the entry at this place of the table (log entry 20). -/
  | breakpointHit (index : Nat) (entry : Breakpoint)
  /-- IX bit 7 was set (R277). -/
  | programExited
  /-- IX bit 6 was set (R277). -/
  | returnToDebugger
  /-- The cancel flag was set (R278). -/
  | interrupted
  deriving DecidableEq, Repr

/-- What an event hands back to the host (R261, last column). -/
inductive Output where
  /-- The report of a run (R281). -/
  | report (r : Report)
  /-- The optional byte of `drain_output()` (R260). -/
  | drained (b : Option Byte)
  deriving DecidableEq, Repr

/-- An event the environment may issue between steps (R7, R261). -/
inductive Event where
  /-- The core's `step()` (R305), past the controller (R283). -/
  | step
  /-- Let the machine go on: one controller iteration while it runs, else what the host does in `Idle` (log entry 6). -/
  | proceed
  /-- The host starts, or stops, calling `step()` over and over while the controller is `Idle` (R261, R283; log entry 24). -/
  | hostStepping (on : Bool)
  /-- `execute(cycle_budget)` (R306): the goal is raised. -/
  | execute (budget : Nat)
  /-- The loop of an `execute` that was issued: core steps until the goal is reached (R306; log entry 18). -/
  | executing
  /-- `reset()` (R300). -/
  | reset
  /-- `irq()` (R243). -/
  | irq
  /-- `nmi()` (R244). -/
  | nmi
  /-- `deliver_key(b)` (R259). -/
  | deliverKey (b : Byte)
  /-- A keystroke becomes available to the controller's poll (R279). -/
  | key (b : Byte)
  /-- `drain_output()` (R260). -/
  | drainOutput
  /-- `add_bp(addr)` (R271). -/
  | addBp (addr : Addr)
  /-- `remove_bp(addr)` (R272). -/
  | removeBp (addr : Addr)
  /-- `step_cmd(n)` (R274). -/
  | stepCmd (n : Nat)
  /-- `continue_cmd` (R275). -/
  | continueCmd
  /-- The cancel flag is set (R278). -/
  | cancel
  /-- The loader writes an image from address 0x0000 (R69). -/
  | load (image : List Byte)
  /-- The host writes one byte between events (R261). -/
  | hostWrite (addr : Addr) (v : Byte)
  /-- The host reads the three platform addresses from the words at these metadata addresses (R258). -/
  | discover (metaIx metaUartIn metaUartOut : Addr)
  deriving DecidableEq, Repr

/-- The breakpoint and execution controller (R34, R35, R278). The program can observe none of it (R285). -/
structure Controller where
  /-- `ctrl`. -/
  ctrl : Ctrl
  /-- `remaining`, meaningful in `steppingN`. -/
  remaining : Nat
  /-- `at_bp`: the next test is skipped (R280). -/
  atBp : Bool
  /-- The breakpoint table, in insertion order. -/
  bps : List Breakpoint
  /-- The cancel flag. -/
  cancel : Bool
  deriving DecidableEq, Repr

/-- Where the three platform bytes lie (R256 to R258): parameters of R4, held as data (log entry 5). -/
structure Platform where
  /-- `IX_ADDR`, the interface status register. -/
  ix : Addr
  /-- `UART_IN_ADDR`. -/
  uartIn : Addr
  /-- `UART_OUT_ADDR`. -/
  uartOut : Addr
  deriving DecidableEq, Repr

/-- The host's side of the machine: the platform addresses and the model's own record of the environment. -/
structure HostSide where
  /-- The platform addresses (log entry 5). -/
  platform : Platform
  /-- The MODEL's field: keystrokes the poll finds, oldest first (log entry 7). -/
  keys : List Byte
  /-- The MODEL's field: the events still to be issued, next first (log entry 6). -/
  pending : List Event
  /-- The MODEL's field: what events handed back, oldest first (log entry 8). -/
  outputs : List Output
  /-- The MODEL's field: the host calls `step()` whenever nothing is pending and the controller is `Idle`. Without it the CPU is
  stopped there (R270; log entry 24). -/
  stepping : Bool
  deriving DecidableEq, Repr

/-- The state of the machine. -/
structure State where
  /-- `A`, the accumulator (R20). -/
  a : Byte
  /-- `X` (R20). -/
  x : Byte
  /-- `Y` (R20). -/
  y : Byte
  /-- `SP`, the offset into the stack page (R21). -/
  sp : Byte
  /-- `PC`, between events the address of the next opcode byte (R22). -/
  pc : Addr
  /-- `P`, the flag register: all eight bits are stored (R23). -/
  p : Byte
  /-- `clockticks` (R32). -/
  clockticks : Nat
  /-- `clockgoal` (R32). -/
  clockgoal : Nat
  /-- Memory (R36, R50): the bytes that something has written, by rising address (log entry 1). -/
  mem : List Host.Cell
  /-- The breakpoint and execution controller. -/
  ctl : Controller
  /-- The platform addresses and the environment. -/
  host : HostSide
  /-- The MODEL's field: the parameters of the step relation (R4, R37). No step changes them (log entry 23). -/
  params : Params
  deriving DecidableEq, Repr

/-- No instruction and no event faults: every event has exactly one successor state (R8), memory accesses never fail (R51)
and no opcode traps (R252). So there is no fault to name (log entry 12). -/
inductive Fault
  deriving DecidableEq, Repr

/-- The reasons a step is refused. -/
inductive Refusal where
  /-- Raised by `exec` for an instruction without a meaning yet, named by its mnemonic. Safe. No arm uses it. -/
  | notModelled (mnemonic : String)
  /-- Raised by every meaning for a term that is no instruction of the hardware (it is not well formed): no bytes decode to
  one. Safe: log entry 10. -/
  | illFormed
  /-- Raised by the meaning of an undefined opcode under `UNDEF_MODE = undocumented`, which R232 tells a model to refuse and
  the configuration does not select. Safe: log entry 13. -/
  | undocumentedComposite
  deriving DecidableEq, Repr

/-- The controller's initial state (R284). -/
def Controller.initial : Controller := ⟨.idle, 0, false, [], false⟩

/-- The host's side before anything has happened; the addresses are DESIGN CHOICE (log entries 5 to 8, 24). -/
def HostSide.initial : HostSide := ⟨⟨0x0000, 0x0000, 0x0000⟩, [], [], [], false⟩

/-- Before the first reset. Memory holds free values (log entry 1) and the controller what R284 says; for the rest the spec
gives no value (R39): DESIGN CHOICE, unsafe (log entries 2 to 4). The parameters are the defaults (log entry 23). -/
def State.powerOn : State where
  a := 0x00
  x := 0x00
  y := 0x00
  sp := 0x00
  pc := 0x0000
  p := 0x00
  clockticks := 0
  clockgoal := 0
  mem := []
  ctl := .initial
  host := .initial
  params := defaultParams

/-- The machine right after reset (R41, R300): `A`, `X`, `Y` 0, `SP` 0xFD, `P.U` 1. The flags and counters reset keeps have
their power-on values (log entries 2, 3). `PC` is the reset vector's word, which nothing has written: a value the spec does not
give, named 0x0000 here (log entry 4). A lemma shows the rest is the reset operation applied to `powerOn`. -/
def State.reset : State where
  a := 0x00
  x := 0x00
  y := 0x00
  sp := Config.spReset
  pc := 0x0000
  p := 0x20
  clockticks := 0
  clockgoal := 0
  mem := []
  ctl := .initial
  host := .initial
  params := defaultParams

end Sys2Proof.Machine
end

