-- ==== Sys2Proof/Machine/Ops.lean ====
section
/-! DEFINITION. The named operations over registers, memory and the stack (20_memory), and taking and leaving a trap
(60_exceptions R241, R249). Every meaning reads and writes the state through these. -/

namespace Sys2Proof.Machine

/-- `A <- v`. -/
def State.setA (s : State) (v : Byte) : State := { s with a := v }

/-- `X <- v`. -/
def State.setX (s : State) (v : Byte) : State := { s with x := v }

/-- `Y <- v`. -/
def State.setY (s : State) (v : Byte) : State := { s with y := v }

/-- `SP <- v`. -/
def State.setSp (s : State) (v : Byte) : State := { s with sp := v }

/-- `PC <- w`. -/
def State.setPc (s : State) (w : Addr) : State := { s with pc := w }

/-- `P <- v`. -/
def State.setP (s : State) (v : Byte) : State := { s with p := v }

/-- `clockticks <- n`. -/
def State.setTicks (s : State) (n : Nat) : State := { s with clockticks := n }

/-- `clockgoal <- n`. -/
def State.setGoal (s : State) (n : Nat) : State := { s with clockgoal := n }

/-- Replace memory. -/
def State.setMem (s : State) (m : List Host.Cell) : State := { s with mem := m }

/-- Replace the controller's state. -/
def State.setCtl (s : State) (c : Controller) : State := { s with ctl := c }

/-- Replace the host's side. -/
def State.setHost (s : State) (h : HostSide) : State := { s with host := h }

/-- What is written at an address: the first entry of it, none if nothing has been written there. -/
def Memory.lookup : List Host.Cell → Nat → Option Byte
  | [], _ => none
  | (k, b) :: rest, a => if k = a then some b else Memory.lookup rest a

/-- Write a byte: replace the entry of its address, or put one before the first of a greater address. -/
def Memory.write : List Host.Cell → Nat → Byte → List Host.Cell
  | [], a, v => [(a, v)]
  | (k, b) :: rest, a, v =>
    if a < k then (a, v) :: (k, b) :: rest
    else if k = a then (a, v) :: rest
    else (k, b) :: Memory.write rest a v

/-- Entries from an address on: addresses rise and lie in the address space. -/
def Memory.wfFrom : Nat → List Host.Cell → Bool
  | _, [] => true
  | lower, (k, _) :: rest => decide (lower ≤ k) && decide (k < 65536) && Memory.wfFrom (k + 1) rest

/-- The canonical form of memory (R50: 65536 bytes). An unlisted address holds no written value, so no entry can equal it. -/
def Memory.wf (m : List Host.Cell) : Bool := Memory.wfFrom 0 m

/-- `MemRead(addr, 1)` (R51): total, no side effect (R56). A byte nothing has written is the address's free value (R39; log
entry 1). -/
def State.read (s : State) (a : Addr) : Byte := (Memory.lookup s.mem a.toNat).getD (Config.unwrittenByte a)

/-- `MemWrite(addr, 1, v)` (R51): total, no read-only region. -/
def State.write (s : State) (a : Addr) (v : Byte) : State := s.setMem (Memory.write s.mem a.toNat v)

/-- `MemRead16(addr)` (R53): low byte at `addr`, high byte at `addr +16 1`. -/
def State.read16 (s : State) (a : Addr) : Addr := word16 (s.read (a + 1)) (s.read a)

/-- `{0x01, sp}`: the address a stack offset names (R21). -/
def stackAddr (sp : Byte) : Addr := word16 Config.stackPage sp

/-- `Push8(v)` (R58): write at `{0x01, SP}`, then `SP <- SP -8 1`. -/
def push8 (v : Byte) (s : State) : State := (s.write (stackAddr s.sp) v).setSp (s.sp - 1)

/-- `Push16(w)` (R60): high byte first. -/
def push16 (w : Addr) (s : State) : State := push8 (lo w) (push8 (hi w) s)

/-- `Pull8()` (R59): `SP <- SP +8 1`, then the byte at `{0x01, SP}`. -/
def pull8 (s : State) : Byte × State := (s.read (stackAddr (s.sp + 1)), s.setSp (s.sp + 1))

/-- `Pull16()` (R61): low byte, then high byte. -/
def pull16 (s : State) : Addr × State :=
  let l := pull8 s
  let h := pull8 l.2
  (word16 h.1 l.1, h.2)

/-- The bit number of a field of `P` (R23; D2). -/
def Flag.bit : Flag → Nat
  | .c => 0
  | .z => 1
  | .i => 2
  | .d => 3
  | .b => 4
  | .u => 5
  | .v => 6
  | .n => 7

/-- The mask of a field of `P` (R23). -/
def Flag.mask : Flag → Byte
  | .c => 0x01
  | .z => 0x02
  | .i => 0x04
  | .d => 0x08
  | .b => 0x10
  | .u => 0x20
  | .v => 0x40
  | .n => 0x80

/-- A field of a status byte. -/
def getFlag (f : Flag) (p : Byte) : Bool := p.getLsbD f.bit

/-- A status byte with one field replaced. -/
def putFlag (f : Flag) (v : Bool) (p : Byte) : Byte := if v then p ||| f.mask else p &&& ~~~f.mask

/-- A field of the machine's `P`. -/
def State.flag (s : State) (f : Flag) : Bool := getFlag f s.p

/-- Write one field of `P`. -/
def State.setFlag (s : State) (f : Flag) (v : Bool) : State := s.setP (putFlag f v s.p)

/-- A status byte as PLP and RTI load it: all bits as pulled, then bit 5 forced to 1 (R143, R219; D6, log entry 17). -/
def pulledStatus (b : Byte) : Byte := b ||| 0x20

/-- `TrapEnter(vec, brk)` (R241): push `PC` and `P` (bit 4 forced for BRK), set `P.I`, load `PC` from the vector. -/
def trapEnter (vec : Addr) (brk : Bool) (s : State) : State :=
  let s1 := push16 s.pc s
  let s2 := push8 (if brk then s.p ||| 0x10 else s.p) s1
  let s3 := s2.setFlag .i true
  s3.setPc (s3.read16 vec)

/-- Return from a trap (R219, R249): pull `P`, then `PC`; no 1 is added. -/
def trapReturn (s : State) : State :=
  let st := pull8 s
  let ret := pull16 (st.2.setP (pulledStatus st.1))
  ret.2.setPc ret.1

/-- `reset()` (R300): nothing is pushed and only `PC`, `A`, `X`, `Y`, `SP` and `P.U` are written (D4). -/
def resetCpu (s : State) : State :=
  (((((s.setPc (s.read16 Config.vecReset)).setA 0x00).setX 0x00).setY 0x00).setSp Config.spReset).setFlag .u true

/-- Parts 1, 2 and 5 of R305 as they touch registers: `PC` past the instruction's `n` bytes, `P.U` set by the fetch. -/
def fetched (n : Nat) (s : State) : State := (s.setPc (s.pc + BitVec.ofNat 16 n)).setFlag .u true

/-- A counter's value kept to `CNT_WIDTH` bits (R4; D18). -/
def wrapCount (width : Option Nat) (n : Nat) : Nat :=
  match width with
  | none => n
  | some w => n % 2 ^ w

/-- Part 7 of R305: `clockticks` counts the step's cost. -/
def tick (n : Nat) (s : State) : State := s.setTicks (wrapCount s.params.cntWidth (s.clockticks + n))

end Sys2Proof.Machine
end

