-- ==== Sys2Proof/Machine/Flags.lean ====
section
/-! DEFINITION. The flag and arithmetic logic: SetZN (10_state R40), the shared adder, the decimal corrections and the compare
(43_arithmetic R150 to R155). -/

namespace Sys2Proof.Machine

/-- `SetZN(v)` (R40). -/
def setZN (v : Byte) (s : State) : State := (s.setFlag .z (v == 0x00)).setFlag .n v.msb

/-- The exact sum the adder narrows to nine bits (R150). -/
def sumOf (a m : Byte) (cin : Bool) : Nat := a.toNat + m.toNat + cin.toNat

/-- `sum[7:0]` (R150). -/
def sumByte (a m : Byte) (cin : Bool) : Byte := BitVec.ofNat 8 (sumOf a m cin)

/-- Signed overflow of a result: both operands have the sign it lacks (R150). -/
def overflowOf (a m result : Byte) : Bool := result.msb != a.msb && result.msb != m.msb

/-- Signed overflow of the binary sum (R150). -/
def sumOverflow (a m : Byte) (cin : Bool) : Bool := overflowOf a m (sumByte a m cin)

/-- The four flags of an addition of `a` and `m`: C as given, Z, N and V from `result` (R150). -/
def resultFlags (a m result : Byte) (carry : Bool) (s : State) : State :=
  (setZN result (s.setFlag .c carry)).setFlag .v (overflowOf a m result)

/-- The flags `AddCore(a, m, cin)` writes (R150); its result is `sumByte a m cin`. -/
def addFlags (a m : Byte) (cin : Bool) (s : State) : State :=
  resultFlags a m (sumByte a m cin) (decide (256 ≤ sumOf a m cin)) s

/-- A low decimal digit sum, corrected past 9 (R153: `al`). -/
def decAdcLow (a m : Byte) (cin : Bool) : Nat :=
  let al := a.toNat % 16 + m.toNat % 16 + cin.toNat
  if 9 < al then al + 6 else al

/-- The high decimal digit sum, corrected past 9 (R153: `ah`). -/
def decAdcHigh (a m : Byte) (cin : Bool) : Nat :=
  let ah := a.toNat / 16 + m.toNat / 16 + (if 15 < decAdcLow a m cin then 1 else 0)
  if 9 < ah then ah + 6 else ah

/-- `DecAdc(a, m, cin)` (R153; D10, log entry 14): the new `A` and the new carry. -/
def decAdc (a m : Byte) (cin : Bool) : Byte × Bool :=
  (BitVec.ofNat 8 (16 * (decAdcHigh a m cin % 16) + decAdcLow a m cin % 16), decide (15 < decAdcHigh a m cin))

/-- The low digit difference of R154, corrected when it is negative. -/
def decSbcLow (a m : Byte) (cin : Bool) : Int :=
  let al : Int := (a.toNat % 16 : Nat) - (m.toNat % 16 : Nat) + (cin.toNat : Nat) - 1
  if al < 0 then (al - 6) % 16 - 16 else al

/-- `DecSbc(a, m, cin)` (R154; D11, log entry 14): the new `A`; `m` is not complemented. -/
def decSbc (a m : Byte) (cin : Bool) : Byte :=
  let t : Int := (16 * (a.toNat / 16) : Nat) - (16 * (m.toNat / 16) : Nat) + decSbcLow a m cin
  BitVec.ofInt 8 (if t < 0 then t - 0x60 else t)

/-- The decimal correction of ADC, by the parameter `DEC_ADC` (R153; log entry 14). -/
def decimalAdc (r : DecimalRule) (a m : Byte) (cin : Bool) : Byte × Bool :=
  match r with
  | .nibble => decAdc a m cin
  | .other => Config.otherDecAdc a m cin

/-- The decimal correction of SBC, by the parameter `DEC_SBC` (R154; log entry 14). -/
def decimalSbc (r : DecimalRule) (a m : Byte) (cin : Bool) : Byte :=
  match r with
  | .nibble => decSbc a m cin
  | .other => Config.otherDecSbc a m cin

/-- The byte decimal ADC and SBC take Z, N and V from (R153; log entry 14). -/
def flagByte (src : SumSource) (binary corrected : Byte) : Byte :=
  match src with
  | .binary => binary
  | .corrected => corrected

/-- ADC's effect on `A` and the flags for the operand `m` (R151). -/
def adcWith (m : Byte) (s : State) : State :=
  let sum := sumByte s.a m (s.flag .c)
  let dec := decimalAdc s.params.decAdc s.a m (s.flag .c)
  if s.flag .d then (resultFlags s.a m (flagByte s.params.decFlags sum dec.1) dec.2 s).setA dec.1
  else (addFlags s.a m (s.flag .c) s).setA sum

/-- SBC's effect on `A` and the flags for the operand `m` (R152): the adder takes the complement of `m`, and C is the adder's in
decimal mode too. -/
def sbcWith (m : Byte) (s : State) : State :=
  let n := m ^^^ 0xFF
  let sum := sumByte s.a n (s.flag .c)
  let dec := decimalSbc s.params.decSbc s.a m (s.flag .c)
  if s.flag .d then
    (resultFlags s.a n (flagByte s.params.decFlags sum dec) (decide (256 ≤ sumOf s.a n (s.flag .c))) s).setA dec
  else (addFlags s.a n (s.flag .c) s).setA sum

/-- `Compare(r, m)` (R155). -/
def compare (r m : Byte) (s : State) : State :=
  ((s.setFlag .c (decide (m.toNat ≤ r.toNat))).setFlag .z (r == m)).setFlag .n (r - m).msb

end Sys2Proof.Machine
end

