-- ==== Sys2Proof/Machine/Operands.lean ====
section
/-! DEFINITION. The addressing-mode resolver (40_addressing_modes R100 to R117). It runs after the fetch, so `PC` is already
past the instruction; the operand bytes are in the decoded operand (log entry 11). -/

namespace Sys2Proof.Machine

/-- `zext_16(b)`: an address in page 0 (R6). -/
def zeroPage (b : Byte) : Addr := b.zeroExtend 16

/-- The 16-bit pointer at page-0 address `zp`; its high byte lies at `zp +8 1` (R112, R113). -/
def zeroPagePointer (s : State) (zp : Byte) : Addr :=
  word16 (s.read (zeroPage (zp + 1))) (s.read (zeroPage zp))

/-- The address the high byte of an indirect pointer is read from: the pointer's own page (R111). -/
def nextInPage (ptr : Addr) : Addr := word16 (hi ptr) (lo ptr + 1)

/-- The address before indexing, in the modes whose page crossing counts: absx, absy, indy (R109, R110, R113). -/
def baseAddr (o : Operand) (s : State) : Option Addr :=
  match o with
  | .absx w | .absy w => some w
  | .indy b => some (zeroPagePointer s b)
  | _ => none

/-- The effective address of a mode that names a byte of memory. None for imp, acc and rel, which have none, and for imm,
whose byte is in the instruction (DEDUCED, log entry 11). -/
def effAddr (o : Operand) (s : State) : Option Addr :=
  match o with
  | .imp | .acc | .imm _ | .rel _ => none
  | .zp b => some (zeroPage b)
  | .zpx b => some (zeroPage (b + s.x))
  | .zpy b => some (zeroPage (b + s.y))
  | .abs w => some w
  | .absx w => some (w + zeroPage s.x)
  | .absy w => some (w + zeroPage s.y)
  | .ind w => some (word16 (s.read (nextInPage w)) (s.read w))
  | .indx b => some (zeroPagePointer s (b + s.x))
  | .indy b => some (zeroPagePointer s b + zeroPage s.y)

/-- `cross` (R116): the index carried into the high byte. -/
def pageCross (o : Operand) (s : State) : Bool :=
  match baseAddr o s, effAddr o s with
  | some base, some ea => hi base != hi ea
  | _, _ => false

/-- `GetValue()` (R114). No instruction calls it in the modes imp and rel; a well-formed one never reaches the last case's 0. -/
def getValue (o : Operand) (s : State) : Byte :=
  match o with
  | .acc => s.a
  | .imm b => b
  | _ => match effAddr o s with
    | some ea => s.read ea
    | none => 0x00

/-- `PutValue(v)` (R115). No instruction calls it in the modes imm, imp, rel and ind. -/
def putValue (o : Operand) (v : Byte) (s : State) : State :=
  match o with
  | .acc => s.setA v
  | _ => match effAddr o s with
    | some ea => s.write ea v
    | none => s

/-- `sext_16(off)`: the signed offset of a branch (R6, R107). -/
def branchOffset (off : Byte) : Addr := off.signExtend 16

/-- `target` of the relative mode, from the address of the next instruction (R107). -/
def branchTarget (off : Byte) (s : State) : Addr := s.pc + branchOffset off

end Sys2Proof.Machine
end

