-- ==== Sys2Proof/Machine/Timing.lean ====
section
/-! DEFINITION. The tick count of a step (70_reset_and_hazards R310 to R314) and the frame every meaning shares: the fetch's
effect before the rule of the mnemonic and the cost after it (R305). -/

namespace Sys2Proof.Machine

/-- `CYCLES[op]` of a table (R311); an opcode outside the table costs nothing. -/
def cycles (table : List (List Nat)) (op : Byte) : Nat := (table.getD (op.toNat / 16) []).getD (op.toNat % 16) 0

/-- `eligible` (R312): the nine mnemonics that pay for a page crossing. -/
def eligible (m : Mnemonic) : Bool :=
  [.adc, .and, .cmp, .eor, .lda, .ldx, .ldy, .ora, .sbc].contains m

/-- `Cost` of a step without its `extra` (R310), in the state after the fetch. -/
def baseCost (i : Instr) (s : State) : Nat :=
  cycles s.params.cycles i.opcode + (if eligible i.mnemonic && pageCross i.operand s then 1 else 0)

/-- `extra` of an instruction that has none. -/
def noExtra (_ : State) : Nat := 0

/-- `extra` of a branch (R313): 1 if taken, 2 if taken to another page than the next instruction's. -/
def branchExtra (taken : Bool) (off : Byte) (s : State) : Nat :=
  if taken then (if hi (branchTarget off s) = hi s.pc then 1 else 2) else 0

/-- `extra` of ADC and SBC (R314): 1 in decimal mode (D36). -/
def decimalExtra (s : State) : Nat := if s.flag .d then 1 else 0

/-- Perform an instruction (R305): fetch, the rule of its mnemonic, the cost. A term that is no instruction is refused (log
entry 10). -/
def perform (i : Instr) (rule : State → State) (extra : State → Nat) (s : State) :
    Host.Outcome State Fault Refusal :=
  if i.wf then
    .next (tick (baseCost i (fetched i.length s) + extra (fetched i.length s)) (rule (fetched i.length s)))
  else .refused .illFormed

end Sys2Proof.Machine
end

