-- ==== Sys2Proof/Machine/Arith.lean ====
section
/-! DEFINITION. ADC, SBC, the compares, increments and decrements (43_arithmetic). -/

namespace Sys2Proof.Machine

/-- ADC, add with carry, binary or decimal (R151); one extra cycle in decimal mode (R314). -/
def execAdc (o : Operand) (s : State) : Host.Outcome State Fault Refusal :=
  perform (.adc o) (fun t => adcWith (getValue o t) t) decimalExtra s

/-- SBC, subtract with borrow, binary or decimal (R152); one extra cycle in decimal mode (R314). -/
def execSbc (o : Operand) (s : State) : Host.Outcome State Fault Refusal :=
  perform (.sbc o) (fun t => sbcWith (getValue o t) t) decimalExtra s

/-- CMP: `Compare(A, GetValue())` (R156). -/
def execCmp (o : Operand) (s : State) : Host.Outcome State Fault Refusal :=
  perform (.cmp o) (fun t => compare t.a (getValue o t) t) noExtra s

/-- CPX: `Compare(X, GetValue())` (R157). -/
def execCpx (o : Operand) (s : State) : Host.Outcome State Fault Refusal :=
  perform (.cpx o) (fun t => compare t.x (getValue o t) t) noExtra s

/-- CPY: `Compare(Y, GetValue())` (R158). -/
def execCpy (o : Operand) (s : State) : Host.Outcome State Fault Refusal :=
  perform (.cpy o) (fun t => compare t.y (getValue o t) t) noExtra s

/-- INC: `v <- GetValue() +8 1; PutValue(v); SetZN(v)` (R159). -/
def execInc (o : Operand) (s : State) : Host.Outcome State Fault Refusal :=
  perform (.inc o) (fun t => setZN (getValue o t + 1) (putValue o (getValue o t + 1) t)) noExtra s

/-- DEC: `v <- GetValue() -8 1; PutValue(v); SetZN(v)` (R162). -/
def execDec (o : Operand) (s : State) : Host.Outcome State Fault Refusal :=
  perform (.dec o) (fun t => setZN (getValue o t - 1) (putValue o (getValue o t - 1) t)) noExtra s

/-- INX: `X <- X +8 1; SetZN(X)` (R160). -/
def execInx (s : State) : Host.Outcome State Fault Refusal :=
  perform .inx (fun t => setZN (t.x + 1) (t.setX (t.x + 1))) noExtra s

/-- INY: `Y <- Y +8 1; SetZN(Y)` (R161). -/
def execIny (s : State) : Host.Outcome State Fault Refusal :=
  perform .iny (fun t => setZN (t.y + 1) (t.setY (t.y + 1))) noExtra s

/-- DEX: `X <- X -8 1; SetZN(X)` (R163). -/
def execDex (s : State) : Host.Outcome State Fault Refusal :=
  perform .dex (fun t => setZN (t.x - 1) (t.setX (t.x - 1))) noExtra s

/-- DEY: `Y <- Y -8 1; SetZN(Y)` (R164). -/
def execDey (s : State) : Host.Outcome State Fault Refusal :=
  perform .dey (fun t => setZN (t.y - 1) (t.setY (t.y - 1))) noExtra s

end Sys2Proof.Machine
end

