-- ==== Sys2Proof/Machine/Control.lean ====
section
/-! DEFINITION. JMP, JSR, RTS and the branches (45_control_flow). -/

namespace Sys2Proof.Machine

/-- `Branch(cond)` (R193): nothing but `PC` changes, and the taken branch's cost (R313). -/
def branch (i : Instr) (off : Byte) (cond : State → Bool) (s : State) : Host.Outcome State Fault Refusal :=
  perform i (fun t => if cond t then t.setPc (branchTarget off t) else t) (fun t => branchExtra (cond t) off t) s

/-- JMP: `PC <- ea` (R190). -/
def execJmp (o : Operand) (s : State) : Host.Outcome State Fault Refusal :=
  perform (.jmp o) (fun t => match effAddr o t with | some ea => t.setPc ea | none => t) noExtra s

/-- JSR: `Push16(PC -16 1); PC <- ea`, `PC` being past the instruction (R191). -/
def execJsr (w : Addr) (s : State) : Host.Outcome State Fault Refusal :=
  perform (.jsr w) (fun t => (push16 (t.pc - 1) t).setPc w) noExtra s

/-- RTS: `PC <- Pull16() +16 1` (R192). -/
def execRts (s : State) : Host.Outcome State Fault Refusal :=
  perform .rts (fun t => (pull16 t).2.setPc ((pull16 t).1 + 1)) noExtra s

/-- BCC: `Branch(P.C == 0)` (R194). -/
def execBcc (off : Byte) (s : State) : Host.Outcome State Fault Refusal :=
  branch (.bcc off) off (fun t => !t.flag .c) s

/-- BCS: `Branch(P.C == 1)` (R195). -/
def execBcs (off : Byte) (s : State) : Host.Outcome State Fault Refusal :=
  branch (.bcs off) off (fun t => t.flag .c) s

/-- BEQ: `Branch(P.Z == 1)` (R196). -/
def execBeq (off : Byte) (s : State) : Host.Outcome State Fault Refusal :=
  branch (.beq off) off (fun t => t.flag .z) s

/-- BNE: `Branch(P.Z == 0)` (R197). -/
def execBne (off : Byte) (s : State) : Host.Outcome State Fault Refusal :=
  branch (.bne off) off (fun t => !t.flag .z) s

/-- BMI: `Branch(P.N == 1)` (R198). -/
def execBmi (off : Byte) (s : State) : Host.Outcome State Fault Refusal :=
  branch (.bmi off) off (fun t => t.flag .n) s

/-- BPL: `Branch(P.N == 0)` (R199). -/
def execBpl (off : Byte) (s : State) : Host.Outcome State Fault Refusal :=
  branch (.bpl off) off (fun t => !t.flag .n) s

/-- BVC: `Branch(P.V == 0)` (R200). -/
def execBvc (off : Byte) (s : State) : Host.Outcome State Fault Refusal :=
  branch (.bvc off) off (fun t => !t.flag .v) s

/-- BVS: `Branch(P.V == 1)` (R201). -/
def execBvs (off : Byte) (s : State) : Host.Outcome State Fault Refusal :=
  branch (.bvs off) off (fun t => t.flag .v) s

end Sys2Proof.Machine
end

