-- ==== Sys2Proof/Machine/LoadStore.lean ====
section
/-! DEFINITION. LDA, LDX, LDY, STA, STX, STY and the register transfers (41_load_store_transfer). -/

namespace Sys2Proof.Machine

/-- LDA: `A <- GetValue(); SetZN(A)` (R120). -/
def execLda (o : Operand) (s : State) : Host.Outcome State Fault Refusal :=
  perform (.lda o) (fun t => setZN (getValue o t) (t.setA (getValue o t))) noExtra s

/-- LDX: `X <- GetValue(); SetZN(X)` (R121). -/
def execLdx (o : Operand) (s : State) : Host.Outcome State Fault Refusal :=
  perform (.ldx o) (fun t => setZN (getValue o t) (t.setX (getValue o t))) noExtra s

/-- LDY: `Y <- GetValue(); SetZN(Y)` (R122). -/
def execLdy (o : Operand) (s : State) : Host.Outcome State Fault Refusal :=
  perform (.ldy o) (fun t => setZN (getValue o t) (t.setY (getValue o t))) noExtra s

/-- STA: `PutValue(A)`, no flag (R123). -/
def execSta (o : Operand) (s : State) : Host.Outcome State Fault Refusal :=
  perform (.sta o) (fun t => putValue o t.a t) noExtra s

/-- STX: `PutValue(X)`, no flag (R124). -/
def execStx (o : Operand) (s : State) : Host.Outcome State Fault Refusal :=
  perform (.stx o) (fun t => putValue o t.x t) noExtra s

/-- STY: `PutValue(Y)`, no flag (R125). -/
def execSty (o : Operand) (s : State) : Host.Outcome State Fault Refusal :=
  perform (.sty o) (fun t => putValue o t.y t) noExtra s

/-- TAX: `X <- A; SetZN(X)` (R126). -/
def execTax (s : State) : Host.Outcome State Fault Refusal :=
  perform .tax (fun t => setZN t.a (t.setX t.a)) noExtra s

/-- TAY: `Y <- A; SetZN(Y)` (R127). -/
def execTay (s : State) : Host.Outcome State Fault Refusal :=
  perform .tay (fun t => setZN t.a (t.setY t.a)) noExtra s

/-- TXA: `A <- X; SetZN(A)` (R128). -/
def execTxa (s : State) : Host.Outcome State Fault Refusal :=
  perform .txa (fun t => setZN t.x (t.setA t.x)) noExtra s

/-- TYA: `A <- Y; SetZN(A)` (R129). -/
def execTya (s : State) : Host.Outcome State Fault Refusal :=
  perform .tya (fun t => setZN t.y (t.setA t.y)) noExtra s

/-- TSX: `X <- SP; SetZN(X)` (R130). -/
def execTsx (s : State) : Host.Outcome State Fault Refusal :=
  perform .tsx (fun t => setZN t.sp (t.setX t.sp)) noExtra s

/-- TXS: `SP <- X`, no flag (R131). -/
def execTxs (s : State) : Host.Outcome State Fault Refusal :=
  perform .txs (fun t => t.setSp t.x) noExtra s

end Sys2Proof.Machine
end

