-- ==== Sys2Proof/Machine/Logic.lean ====
section
/-! DEFINITION. AND, ORA, EOR, BIT, ASL, LSR, ROL, ROR (44_logic_shift). -/

namespace Sys2Proof.Machine

/-- BIT's flags for the operand `m` (R173): `A` is not changed. -/
def bitTest (m : Byte) (s : State) : State :=
  ((s.setFlag .z (s.a &&& m == 0x00)).setFlag .n (m.getLsbD 7)).setFlag .v (m.getLsbD 6)

/-- A shift or rotate (R174 to R177): the result to the operand's place, the bit shifted out to C, `SetZN`. -/
def shiftTo (o : Operand) (result : Byte) (out : Bool) (s : State) : State :=
  setZN result (putValue o result (s.setFlag .c out))

/-- A byte with `P.C` at bit `n` and zeros elsewhere (R176, R177). -/
def carryAt (n : Nat) (s : State) : Byte := if s.flag .c then (1 : Byte) <<< n else 0x00

/-- AND, bitwise on `A`; `SetZN(A)` (R170). -/
def execAnd (o : Operand) (s : State) : Host.Outcome State Fault Refusal :=
  perform (.and o) (fun t => setZN (t.a &&& getValue o t) (t.setA (t.a &&& getValue o t))) noExtra s

/-- ORA, bitwise on `A`; `SetZN(A)` (R171). -/
def execOra (o : Operand) (s : State) : Host.Outcome State Fault Refusal :=
  perform (.ora o) (fun t => setZN (t.a ||| getValue o t) (t.setA (t.a ||| getValue o t))) noExtra s

/-- EOR, bitwise on `A`; `SetZN(A)` (R172). -/
def execEor (o : Operand) (s : State) : Host.Outcome State Fault Refusal :=
  perform (.eor o) (fun t => setZN (t.a ^^^ getValue o t) (t.setA (t.a ^^^ getValue o t))) noExtra s

/-- BIT: Z from `A and m`, N and V from bits 7 and 6 of `m` (R173). -/
def execBit (o : Operand) (s : State) : Host.Outcome State Fault Refusal :=
  perform (.bit o) (fun t => bitTest (getValue o t) t) noExtra s

/-- ASL: `{v[6:0], 0}`, C from bit 7 (R174). -/
def execAsl (o : Operand) (s : State) : Host.Outcome State Fault Refusal :=
  perform (.asl o) (fun t => shiftTo o (getValue o t <<< 1) ((getValue o t).getLsbD 7) t) noExtra s

/-- LSR: `{0, v[7:1]}`, C from bit 0 (R175). -/
def execLsr (o : Operand) (s : State) : Host.Outcome State Fault Refusal :=
  perform (.lsr o) (fun t => shiftTo o (getValue o t >>> 1) ((getValue o t).getLsbD 0) t) noExtra s

/-- ROL: `{v[6:0], P.C}`, C from bit 7 (R176). -/
def execRol (o : Operand) (s : State) : Host.Outcome State Fault Refusal :=
  perform (.rol o) (fun t => shiftTo o ((getValue o t <<< 1) ||| carryAt 0 t) ((getValue o t).getLsbD 7) t) noExtra s

/-- ROR: `{P.C, v[7:1]}`, C from bit 0 (R177). -/
def execRor (o : Operand) (s : State) : Host.Outcome State Fault Refusal :=
  perform (.ror o) (fun t => shiftTo o ((getValue o t >>> 1) ||| carryAt 7 t) ((getValue o t).getLsbD 0) t) noExtra s

end Sys2Proof.Machine
end

