-- ==== Sys2Proof/Machine/Stack.lean ====
section
/-! DEFINITION. PHA, PHP, PLA, PLP (42_stack). -/

namespace Sys2Proof.Machine

/-- PHA: `Push8(A)` (R140). -/
def execPha (s : State) : Host.Outcome State Fault Refusal :=
  perform .pha (fun t => push8 t.a t) noExtra s

/-- PHP: `Push8(P or 0x30)`; `P` itself is kept (R141; D7). -/
def execPhp (s : State) : Host.Outcome State Fault Refusal :=
  perform .php (fun t => push8 (t.p ||| 0x30) t) noExtra s

/-- PLA: `A <- Pull8(); SetZN(A)` (R142). -/
def execPla (s : State) : Host.Outcome State Fault Refusal :=
  perform .pla (fun t => setZN (pull8 t).1 ((pull8 t).2.setA (pull8 t).1)) noExtra s

/-- PLP: `P <- Pull8() or 0x20` (R143; D6). -/
def execPlp (s : State) : Host.Outcome State Fault Refusal :=
  perform .plp (fun t => (pull8 t).2.setP (pulledStatus (pull8 t).1)) noExtra s

end Sys2Proof.Machine
end

