-- ==== Sys2Proof/Machine/System.lean ====
section
/-! DEFINITION. The flag instructions, NOP, BRK, RTI (46_flags_system). -/

namespace Sys2Proof.Machine

/-- CLC: `P.C <- 0` (R210). -/
def execClc (s : State) : Host.Outcome State Fault Refusal :=
  perform .clc (fun t => t.setFlag .c false) noExtra s

/-- SEC: `P.C <- 1` (R211). -/
def execSec (s : State) : Host.Outcome State Fault Refusal :=
  perform .sec (fun t => t.setFlag .c true) noExtra s

/-- CLI: `P.I <- 0` (R212). -/
def execCli (s : State) : Host.Outcome State Fault Refusal :=
  perform .cli (fun t => t.setFlag .i false) noExtra s

/-- SEI: `P.I <- 1` (R213). -/
def execSei (s : State) : Host.Outcome State Fault Refusal :=
  perform .sei (fun t => t.setFlag .i true) noExtra s

/-- CLV: `P.V <- 0` (R214). -/
def execClv (s : State) : Host.Outcome State Fault Refusal :=
  perform .clv (fun t => t.setFlag .v false) noExtra s

/-- CLD: `P.D <- 0` (R215). -/
def execCld (s : State) : Host.Outcome State Fault Refusal :=
  perform .cld (fun t => t.setFlag .d false) noExtra s

/-- SED: `P.D <- 1` (R216). -/
def execSed (s : State) : Host.Outcome State Fault Refusal :=
  perform .sed (fun t => t.setFlag .d true) noExtra s

/-- NOP: nothing but what every step does (R217). -/
def execNop (s : State) : Host.Outcome State Fault Refusal :=
  perform .nop (fun t => t) noExtra s

/-- BRK: skip the byte after the opcode, then `TrapEnter(0xFFFE, 1)` (R218; D8, log entry 15). -/
def execBrk (s : State) : Host.Outcome State Fault Refusal :=
  perform .brk (fun t => trapEnter Config.vecIrq true (t.setPc (t.pc + 1))) noExtra s

/-- RTI: `P <- Pull8() or 0x20; PC <- Pull16()` (R219). -/
def execRti (s : State) : Host.Outcome State Fault Refusal :=
  perform .rti (trapReturn) noExtra s

end Sys2Proof.Machine
end

