-- ==== Sys2Proof/Machine/Undefined.lean ====
section
/-! DEFINITION. The undefined opcodes (47_undefined_opcodes). -/

namespace Sys2Proof.Machine

/-- UND (R230): a no-op of its descriptor's length. `UNDEF_MODE = undocumented` is refused (R232; log entry 13). -/
def execUnd (op : Byte) (o : Operand) (s : State) : Host.Outcome State Fault Refusal :=
  match Config.undefMode with
  | .nop => perform (.und op o) (fun t => t) noExtra s
  | .undocumented => .refused .undocumentedComposite

end Sys2Proof.Machine
end

