-- ==== Sys2Proof/Machine/Fetch.lean ====
section
/-! DEFINITION. The core's entry points: fetching and running one instruction (70_reset_and_hazards R305, 30_encoding R86)
and the cycle-budget loop (R306). -/

namespace Sys2Proof.Machine

/-- The bytes a step can fetch: opcode and operand bytes at `PC`, `PC +16 1`, `PC +16 2` (R86). Reading them changes
nothing (R56), and an instruction uses only those its mode takes. -/
def fetchBytes (s : State) : List Byte := [s.read s.pc, s.read (s.pc + 1), s.read (s.pc + 2)]

/-- The instruction at `PC`: decoding is total (R83). A lemma shows it is what `decode` reads from `fetchBytes`. -/
def fetchInstr (s : State) : Instr :=
  instrOf s.params.undefDesc (s.read s.pc) (s.read (s.pc + 1)) (s.read (s.pc + 2))

/-- `step()` of the core (R305): run the instruction at `PC`. It knows nothing of breakpoints, IX or keys (R283). -/
def cpuStep (s : State) : Host.Outcome State Fault Refusal := exec (fetchInstr s) s

/-- `execute(cycle_budget)` (R306; D17): the goal accumulates, and the loop is what happens next. -/
def execute (budget : Nat) (s : State) : State :=
  let s1 := s.setGoal (wrapCount s.params.cntWidth (s.clockgoal + budget))
  s1.setHost { s1.host with pending := .executing :: s1.host.pending }

/-- One turn of the loop of `execute` (R306): a core step while the goal is not reached, with the loop still first in the list;
then the loop is over. Nothing else happens between its steps (log entry 18). -/
def executeTurn (s : State) : Host.Outcome State Fault Refusal :=
  if s.clockticks < s.clockgoal then cpuStep (s.setHost { s.host with pending := .executing :: s.host.pending }) else .next s

/-- Store three bytes at `PC`, `PC +16 1`, `PC +16 2`, and let the host step the core with nothing else to happen first: no
pending event and the controller idle, so that the next step runs the instruction these bytes hold (log entries 4, 24). -/
def placeAtPc (bytes : List Byte) (s : State) : State :=
  let s1 := ((s.write s.pc (bytes.getD 0 0)).write (s.pc + 1) (bytes.getD 1 0)).write (s.pc + 2) (bytes.getD 2 0)
  (s1.setCtl { s1.ctl with ctrl := .idle }).setHost { s1.host with pending := [], stepping := true }

end Sys2Proof.Machine
end

