-- ==== Sys2Proof/Machine/Controller.lean ====
section
/-! DEFINITION. Interrupt entry, the platform bytes' protocol, and the breakpoint and execution controller (60_exceptions
R243 to R245, R256 to R260, R270 to R285). -/

namespace Sys2Proof.Machine

/-- `irq()` (R243): taken whatever `P.I` holds unless `IRQ_RESPECTS_I`, under which it then does nothing (R245; D13, log
entry 16). -/
def irq (s : State) : State :=
  if s.params.irqRespectsI && s.flag .i then s else trapEnter Config.vecIrq false s

/-- `nmi()` (R244). -/
def nmi (s : State) : State := trapEnter Config.vecNmi false s

/-- The interface status byte IX (R256). -/
def ixByte (s : State) : Byte := s.read s.host.platform.ix

/-- IX bit 1, busy (R256). -/
def busy (s : State) : Bool := (ixByte s).getLsbD 1

/-- The effect of `deliver_key(b)` when it is enabled (R259; C5): set busy, store the byte, then `irq()`. -/
def deliverKey (b : Byte) (s : State) : State :=
  irq ((s.write s.host.platform.ix (ixByte s ||| 0x02)).write s.host.platform.uartIn b)

/-- Hand an output to the host (log entry 8). -/
def emit (o : Output) (s : State) : State := s.setHost { s.host with outputs := s.host.outputs ++ [o] }

/-- `drain_output()` (R260). -/
def drainOutput (s : State) : State :=
  if (ixByte s).getLsbD 0 then
    emit (.drained (some (s.read s.host.platform.uartOut))) (s.write s.host.platform.ix (ixByte s &&& 0xFE))
  else emit (.drained none) s

/-- The breakpoint table has no slot left: `BP_CAPACITY` entries, inactive ones included (R4, R272; log entry 20). -/
def bpFull (s : State) : Bool :=
  match s.params.bpCapacity with
  | none => false
  | some n => decide (n ≤ s.ctl.bps.length)

/-- `add_bp(addr)` (R271): append an active entry; a full table takes none (log entry 20). -/
def addBp (addr : Addr) (s : State) : State :=
  if bpFull s then s else s.setCtl { s.ctl with bps := s.ctl.bps ++ [⟨addr, true⟩] }

/-- `remove_bp(addr)` (R272; C2): every active entry of that address becomes inactive and keeps its place. -/
def removeBp (addr : Addr) (s : State) : State :=
  s.setCtl { s.ctl with bps := s.ctl.bps.map (fun e => if e.address = addr then { e with active := false } else e) }

/-- An entry matches the instruction at `pc` of length `len`: it is active and names one of its bytes, modulo 65536 (R273). -/
def bpMatches (pc : Addr) (len : Nat) (e : Breakpoint) : Bool :=
  e.active && decide ((e.address - pc).toNat < len)

/-- The first matching entry of a table whose first place is number `i`. -/
def firstHit (pc : Addr) (len : Nat) : Nat → List Breakpoint → Option (Nat × Breakpoint)
  | _, [] => none
  | i, e :: rest => if bpMatches pc len e then some (i, e) else firstHit pc len (i + 1) rest

/-- The length of the instruction whose opcode byte is at `PC` now (R273). -/
def lengthAtPc (s : State) : Nat := (descriptor s.params.undefDesc (s.read s.pc)).2.length

/-- `Hit(PC)` (R273). -/
def hit (s : State) : Option (Nat × Breakpoint) := firstHit s.pc (lengthAtPc s) 0 s.ctl.bps

/-- `Halt(r)` (R276): back to `Idle`, `remaining` 0, one report. The CPU is stopped there (R270): a host that was stepping the core
by itself has to start again (log entry 24). -/
def halt (r : Report) (s : State) : State :=
  emit (.report r) ((s.setCtl { s.ctl with ctrl := .idle, remaining := 0 }).setHost { s.host with stepping := false })

/-- `step_cmd(n)` in `Idle` (R274; D32 for n = 0). -/
def stepCmd (n : Nat) (s : State) : State :=
  if n = 0 then emit (.report .stepDone) s else s.setCtl { s.ctl with ctrl := .steppingN, remaining := n }

/-- `continue_cmd` in `Idle` (R275): the cancel flag is cleared. -/
def continueCmd (s : State) : State := s.setCtl { s.ctl with ctrl := .continuous, cancel := false }

/-- Part 1 of an iteration after the cancel test (R276, R279): a `Continuous` iteration delivers the polled key unless busy is
set; a key not delivered stays with the environment (log entry 7). -/
def pollKey (s : State) : State :=
  match s.ctl.ctrl, s.host.keys with
  | .continuous, b :: rest => if busy s then s else deliverKey b (s.setHost { s.host with keys := rest })
  | _, _ => s

/-- Parts 4 and 5 of an iteration (R276, R277; D31): the IX test, then the count. -/
def afterStep (s : State) : State :=
  if (ixByte s).getLsbD 7 then halt .programExited s
  else if (ixByte s).getLsbD 6 then halt .returnToDebugger s
  else match s.ctl.ctrl with
    | .steppingN =>
      if s.ctl.remaining - 1 = 0 then halt .stepDone s
      else s.setCtl { s.ctl with remaining := s.ctl.remaining - 1 }
    | _ => s

/-- Part 2 of an iteration (R276, R280): the entry the controller halts on, if `at_bp` does not skip the test. -/
def stopsAt (s : State) : Option (Nat × Breakpoint) := if s.ctl.atBp then none else hit s

/-- One iteration (R276), performed while the controller is not `Idle`. -/
def iterate (s : State) : Host.Outcome State Fault Refusal :=
  if s.ctl.ctrl = .continuous ∧ s.ctl.cancel = true then .next (halt .interrupted s)
  else
    match stopsAt (pollKey s) with
    | some (i, e) => .next (halt (.breakpointHit i e) ((pollKey s).setCtl { (pollKey s).ctl with atBp := true }))
    | none =>
      match cpuStep ((pollKey s).setCtl { (pollKey s).ctl with atBp := false }) with
      | .next t => .next (afterStep t)
      | .fault r => .fault r
      | .refused r => .refused r

/-- The machine goes on with no event: one iteration of a run; in `Idle` the CPU is stopped and no step is issued (R270, R263),
unless the host steps the core by itself (R283; log entry 24). -/
def proceed (s : State) : Host.Outcome State Fault Refusal :=
  match s.ctl.ctrl with
  | .idle => if s.host.stepping then cpuStep s else .next s
  | .steppingN => iterate s
  | .continuous => iterate s

end Sys2Proof.Machine
end

