-- ==== Sys2Proof/Machine/Events.lean ====
section
/-! DEFINITION. The environment's events (00_scope R7, 60_exceptions R261): when each may be issued and what it does. -/

namespace Sys2Proof.Machine

/-- Write a list of bytes from an address on, as far as the address space goes (R69; U16). -/
def writeImage : Nat → List Byte → List Host.Cell → List Host.Cell
  | _, [], m => m
  | a, b :: rest, m => if a < 65536 then writeImage (a + 1) rest (Memory.write m a b) else m

/-- Load an image from address 0x0000 (R69). -/
def loadImage (image : List Byte) (s : State) : State := s.setMem (writeImage 0 image s.mem)

/-- The host reads the three platform addresses from its metadata words (R258; D33). -/
def discover (metaIx metaUartIn metaUartOut : Addr) (s : State) : State :=
  s.setHost { s.host with platform := ⟨s.read16 metaIx, s.read16 metaUartIn, s.read16 metaUartOut⟩ }

/-- Whether an event may happen now: a key is delivered only while busy is clear (R259), a controller command is accepted
only in `Idle` (R270); every other event always may. -/
def enabled (e : Event) (s : State) : Bool :=
  match e with
  | .deliverKey _ => !busy s
  | .addBp _ | .removeBp _ | .stepCmd _ | .continueCmd => decide (s.ctl.ctrl = .idle)
  | .step | .proceed | .hostStepping _ | .execute _ | .executing | .reset | .irq | .nmi | .key _ | .drainOutput | .cancel | .load _ | .hostWrite _ _
  | .discover _ _ _ => true

/-- The effect of an enabled event, one atomic transition (R7). -/
def fire (e : Event) (s : State) : Host.Outcome State Fault Refusal :=
  match e with
  | .step => cpuStep s
  | .proceed => proceed s
  | .hostStepping on => .next (s.setHost { s.host with stepping := on })
  | .execute budget => .next (execute budget s)
  | .executing => executeTurn s
  | .reset => .next (resetCpu s)
  | .irq => .next (irq s)
  | .nmi => .next (nmi s)
  | .deliverKey b => .next (deliverKey b s)
  | .key b => .next (s.setHost { s.host with keys := s.host.keys ++ [b] })
  | .drainOutput => .next (drainOutput s)
  | .addBp addr => .next (addBp addr s)
  | .removeBp addr => .next (removeBp addr s)
  | .stepCmd n => .next (stepCmd n s)
  | .continueCmd => .next (continueCmd s)
  | .cancel => .next (s.setCtl { s.ctl with cancel := true })
  | .load image => .next (loadImage image s)
  | .hostWrite addr v => .next (s.write addr v)
  | .discover i r w => .next (discover i r w s)

/-- The machine's next transition: the environment's next event if it has one and it may happen now, else the machine goes on
with no event and an event that may not happen yet stays (R259, R270; log entry 6). -/
def advance (s : State) : Host.Outcome State Fault Refusal :=
  match s.host.pending with
  | [] => proceed s
  | e :: rest => if enabled e s then fire e (s.setHost { s.host with pending := rest }) else proceed s

end Sys2Proof.Machine
end

