-- ==== Sys2Proof/Machine/Step.lean ====
section
/-! DEFINITION. One step of the machine: one event (00_scope R7). -/

namespace Sys2Proof.Machine

/-- One step: the environment's next event, or the machine going on with no event. With nothing pending and the controller
idle nothing happens (R270), or, if the host steps the core by itself, the core's `step()` (R305; log entry 24). -/
def step (s : State) : Host.Outcome State Fault Refusal := advance s

/-- The state with an instruction's bytes stored where the next step fetches, and nothing else to happen first. -/
def State.withFetchWord (s : State) (nbits w : Nat) : State := placeAtPc (tableBytes nbits w) s

end Sys2Proof.Machine
end

