-- ==== Sys2Proof/Safety.lean ====
section
/-! DEFINITION. What holds in every state of a run: the invariant the statements use. -/

namespace Sys2Proof

/-- Memory has its canonical form: the written addresses, rising and below 65536. -/
abbrev memoryCanonical (s : Machine.State) : Prop := Machine.Memory.wf s.mem = true

/-- The Constant flag is 1, as it is in every state after the first reset (R29). -/
abbrev constantSet (s : Machine.State) : Prop := s.flag .u = true

/-- The controller's counter is positive exactly in `SteppingN` (R34, R274, R276: every halt sets it to 0). -/
abbrev counterConsistent (s : Machine.State) : Prop :=
  s.ctl.ctrl = .steppingN ↔ 0 < s.ctl.remaining

/-- Both counters fit `CNT_WIDTH` (R4). -/
abbrev countersFit (s : Machine.State) : Prop :=
  s.clockticks = Machine.wrapCount s.params.cntWidth s.clockticks ∧
  s.clockgoal = Machine.wrapCount s.params.cntWidth s.clockgoal

/-- The breakpoint table fits `BP_CAPACITY` (R4). -/
abbrev tableFits (s : Machine.State) : Prop := ∀ n, s.params.bpCapacity = some n → s.ctl.bps.length ≤ n

/-- The invariant of the machine. -/
abbrev Inv (s : Machine.State) : Prop :=
  memoryCanonical s ∧ constantSet s ∧ counterConsistent s ∧ countersFit s ∧ tableFits s

end Sys2Proof
end

