-- ==== Sys2Proof/Certificates/Slice0/Obligations.lean ====
section
/-! DEFINITION. The statements about the machine, each from numbered rules or sections of spec/. The first part names what
several of them say. OBLIGATIONS.json lists them. -/

namespace Sys2Proof.Claims
open Sys2Proof.Machine

/-- The address after an instruction at `PC`. -/
def past (i : Instr) (s : State) : Addr := s.pc + BitVec.ofNat 16 i.length

/-- Every byte of memory reads as before. -/
def memoryKept (s t : State) : Prop := ∀ q : Addr, t.read q = s.read q

/-- The byte at one address reads as `v`, every other byte as before. -/
def onlyByte (ea : Addr) (v : Byte) (s t : State) : Prop := t.read ea = v ∧ ∀ q, q ≠ ea → t.read q = s.read q

/-- Every flag but the listed ones is as before; the Constant flag, which every fetch sets, is in `accounted`. -/
def flagsKept (written : List Flag) (s t : State) : Prop := ∀ f, f ≠ .u → f ∉ written → t.flag f = s.flag f

/-- Z and N describe the byte `v` (R40). -/
def zeroSign (v : Byte) (t : State) : Prop := t.flag .z = decide (v = 0) ∧ t.flag .n = v.getLsbD 7

/-- `A`, `X`, `Y` and `SP` are as before. -/
def registersKept (s t : State) : Prop := t.a = s.a ∧ t.x = s.x ∧ t.y = s.y ∧ t.sp = s.sp

/-- What every instruction does beside its own rule (R305): the fetch sets the Constant flag, the ticks grow by the cost of
R310 (in the counter's width, R4), and the goal, the controller, the host's side and the parameters are as before. -/
def accounted (i : Instr) (extra : Nat) (s t : State) : Prop :=
  t.flag .u = true ∧
  t.clockticks = wrapCount s.params.cntWidth (s.clockticks + cycles s.params.cycles i.opcode +
    (if eligible i.mnemonic = true ∧ pageCross i.operand s = true then 1 else 0) + extra) ∧
  t.clockgoal = s.clockgoal ∧ t.ctl = s.ctl ∧ t.host = s.host ∧ t.params = s.params

/-- The modes and opcodes of an instruction: it exists in exactly the listed modes, and is encoded with the listed opcode. -/
def rows (mk : Operand → Instr) (r : List (Mode × Byte)) : Prop :=
  ∀ o, ((mk o).wf = true ↔ ∃ op, (o.mode, op) ∈ r) ∧ ∀ op, (o.mode, op) ∈ r → encode (mk o) = op :: o.bytes

/-- The default base costs by class (R311): mnemonics, and their cost in each mode. An undefined opcode costs what a read of its
mode does (the spec's decision D35). -/
def baseCosts : List (List Mnemonic × List (Mode × Nat)) :=
  [([.lda, .ldx, .ldy, .adc, .sbc, .and, .ora, .eor, .cmp, .cpx, .cpy, .bit], [(.imm, 2), (.zp, 3), (.zpx, 4), (.zpy, 4), (.abs, 4),
      (.absx, 4), (.absy, 4), (.indx, 6), (.indy, 5)]),
   ([.sta, .stx, .sty], [(.zp, 3), (.zpx, 4), (.zpy, 4), (.abs, 4), (.absx, 5), (.absy, 5), (.indx, 6), (.indy, 6)]),
   ([.asl, .lsr, .rol, .ror, .inc, .dec], [(.acc, 2), (.zp, 5), (.zpx, 6), (.abs, 6), (.absx, 7)]),
   ([.bcc, .bcs, .beq, .bne, .bmi, .bpl, .bvc, .bvs], [(.rel, 2)]),
   ([.brk], [(.imp, 7)]), ([.jsr], [(.abs, 6)]), ([.rts, .rti], [(.imp, 6)]), ([.jmp], [(.abs, 3), (.ind, 5)]),
   ([.pha, .php], [(.imp, 3)]), ([.pla, .plp], [(.imp, 4)]),
   ([.tax, .tay, .txa, .tya, .tsx, .txs, .inx, .iny, .dex, .dey, .clc, .sec, .cli, .sei, .clv, .cld, .sed, .nop], [(.imp, 2)]),
   ([.und], [(.imp, 2), (.imm, 2), (.zp, 3), (.zpx, 4), (.zpy, 4), (.abs, 4), (.absx, 4), (.absy, 4), (.indx, 6), (.indy, 5)])]

/-- A packed BCD byte: both digits 0 to 9 (R153). -/
def isBcd (b : Byte) : Prop := b.toNat / 16 ≤ 9 ∧ b.toNat % 16 ≤ 9

/-- The number a packed BCD byte stands for. -/
def bcdValue (b : Byte) : Nat := 10 * (b.toNat / 16) + b.toNat % 16

/-- An instruction of a read, shift or store keeps every state but what its statement names: registers but `A`. -/
def othersKept (i : Instr) (extra : Nat) (s t : State) : Prop :=
  t.x = s.x ∧ t.y = s.y ∧ t.sp = s.sp ∧ t.pc = past i s ∧ accounted i extra s t

/-- `mk o` reads its operand, puts `v` in `A` and lets Z and N describe it; nothing else changes. -/
def loadsA (mk : Operand → Instr) (v : Operand → State → Byte) : Prop :=
  ∀ o s, (mk o).wf = true → ∃ t, exec (mk o) s = .next t ∧
    t.a = v o s ∧ zeroSign (v o s) t ∧ flagsKept [.z, .n] s t ∧ memoryKept s t ∧ othersKept (mk o) 0 s t

/-- `mk o` stores the register `r` at the effective address; no register but `PC` and no flag changes. -/
def storesRegister (mk : Operand → Instr) (r : State → Byte) : Prop :=
  ∀ o s, (mk o).wf = true → ∃ t ea, exec (mk o) s = .next t ∧
    effAddr o s = some ea ∧ onlyByte ea (r s) s t ∧ registersKept s t ∧ t.pc = past (mk o) s ∧ flagsKept [] s t ∧
    accounted (mk o) 0 s t

/-- `mk o` compares the register `r` with its operand: C is "not less" unsigned, Z "equal", N bit 7 of the difference. -/
def compares (mk : Operand → Instr) (r : State → Byte) : Prop :=
  ∀ o s, (mk o).wf = true → ∃ t, exec (mk o) s = .next t ∧
    t.flag .c = decide ((getValue o s).toNat ≤ (r s).toNat) ∧ t.flag .z = decide (r s = getValue o s) ∧
    t.flag .n = (r s - getValue o s).getLsbD 7 ∧ flagsKept [.c, .z, .n] s t ∧ registersKept s t ∧
    t.pc = past (mk o) s ∧ memoryKept s t ∧ accounted (mk o) 0 s t

/-- `mk o` replaces its operand `v` by `res v c`, with `c` the carry before it: in `A` in mode acc, else in the byte at the
effective address, which is all of memory that changes. Z and N describe the result. -/
def modifiesOperand (mk : Operand → Instr) (written : List Flag) (res : Byte → Bool → Byte) : Prop :=
  ∀ o s, (mk o).wf = true → ∃ t, exec (mk o) s = .next t ∧
    (o = .acc → t.a = res s.a (s.flag .c) ∧ memoryKept s t) ∧
    (o ≠ .acc → t.a = s.a ∧ ∃ ea, effAddr o s = some ea ∧ onlyByte ea (res (s.read ea) (s.flag .c)) s t) ∧
    zeroSign (res (getValue o s) (s.flag .c)) t ∧ flagsKept written s t ∧ othersKept (mk o) 0 s t

/-- `mk o` puts the bit `out v` of its operand `v` into C. -/
def carriesOut (mk : Operand → Instr) (out : Byte → Bool) : Prop :=
  ∀ o s t, exec (mk o) s = .next t → t.flag .c = out (getValue o s)

/-- The branch `mk off` with opcode `op` is taken exactly when flag `f` is `v` (R193): nothing but `PC` and the ticks changes. -/
def branchesOn (mk : Byte → Instr) (op : Byte) (f : Flag) (v : Bool) : Prop :=
  ∀ off s, encode (mk off) = [op, off] ∧ ∃ t extra, exec (mk off) s = .next t ∧
    t.pc = (if s.flag f = v then s.pc + 2 + off.signExtend 16 else s.pc + 2) ∧
    extra = (if s.flag f = v then (if hi (s.pc + 2 + off.signExtend 16) = hi (s.pc + 2) then 1 else 2) else 0) ∧
    registersKept s t ∧ flagsKept [] s t ∧ memoryKept s t ∧ accounted (mk off) extra s t

/-- The one-byte instruction `i` with opcode `op` writes the flag `f` with `v` and nothing else. -/
def writesFlag (i : Instr) (op : Byte) (f : Flag) (v : Bool) : Prop :=
  encode i = [op] ∧ ∀ s, ∃ t, exec i s = .next t ∧ t.flag f = v ∧ flagsKept [f] s t ∧ registersKept s t ∧
    t.pc = s.pc + 1 ∧ memoryKept s t ∧ accounted i 0 s t

/-- The one-byte instruction `i` with opcode `op` has Z and N describe `v s`; `regs` says what it does to the registers. -/
def transfers (i : Instr) (op : Byte) (v : State → Byte) (regs : State → State → Prop) : Prop :=
  encode i = [op] ∧ ∀ s, ∃ t, exec i s = .next t ∧ regs s t ∧ t.sp = s.sp ∧ zeroSign (v s) t ∧ flagsKept [.z, .n] s t ∧
    t.pc = s.pc + 1 ∧ memoryKept s t ∧ accounted i 0 s t

/-- Three bytes of stack hold a trap's frame under the stack pointer `sp` before it: `PC` high, `PC` low, status (R241). -/
def frameAt (sp : Byte) (ret : Addr) (status : Byte) (s t : State) : Prop :=
  t.sp = sp - 3 ∧ t.read (stackAddr sp) = hi ret ∧ t.read (stackAddr (sp - 1)) = lo ret ∧
  t.read (stackAddr (sp - 2)) = status ∧
  ∀ q, q ≠ stackAddr sp → q ≠ stackAddr (sp - 1) → q ≠ stackAddr (sp - 2) → t.read q = s.read q

/-- An event of the environment that is next and may happen now leads to a state of which `post` holds, where `post` compares
with the state before it with the event taken off. -/
def eventLeads (e : Event) (pre : State → Prop) (post : State → State → Prop) : Prop :=
  ∀ s rest, s.host.pending = e :: rest → pre s →
    ∃ t, step s = .next t ∧ post (s.setHost { s.host with pending := rest }) t

/-- A breakpoint entry is active and its address is one of the bytes of the instruction at `PC`, modulo 65536 (R273). -/
def covers (s : State) (e : Breakpoint) : Prop :=
  e.active = true ∧ ∃ k, k < (descriptor s.params.undefDesc (s.read s.pc)).2.length ∧ e.address = s.pc + BitVec.ofNat 16 k

/-- The registers, flags, ticks and goal of the CPU, and the parameters, are as before. -/
def cpuKept (s t : State) : Prop :=
  registersKept s t ∧ t.pc = s.pc ∧ t.p = s.p ∧ t.clockticks = s.clockticks ∧ t.clockgoal = s.clockgoal ∧
  t.params = s.params

/-- `n` core steps lead from `s` to `t`, each taken while `clockticks` is below `clockgoal` (R306). -/
def coreSteps : Nat → State → State → Prop
  | 0, s, t => s = t
  | n + 1, s, t => s.clockticks < s.clockgoal ∧ ∃ u, cpuStep s = .next u ∧ coreSteps n u t

/-- `n` steps of the machine lead from `s` to `t`. -/
def machineSteps : Nat → State → State → Prop
  | 0, s, t => s = t
  | n + 1, s, t => ∃ u, step s = .next u ∧ machineSteps n u t

/-- An event that is a command to the controller (R270). -/
def isCommand (e : Event) : Prop :=
  (∃ a, e = .addBp a ∨ e = .removeBp a) ∨ (∃ n, e = .stepCmd n) ∨ e = .continueCmd

/-- A step from `s` is the machine going on from `u` (log entry 6): from `s` itself when nothing is pending or the next event may
not happen yet and waits; from `s` with the event taken off when a proceed event is next. -/
def goesOnFrom (s u : State) : Prop :=
  (u = s ∧ ∀ e rest, s.host.pending = e :: rest → enabled e s = false) ∨
  ∃ rest, s.host.pending = .proceed :: rest ∧ u = s.setHost { s.host with pending := rest }

end Sys2Proof.Claims

open Sys2Proof Sys2Proof.Machine Sys2Proof.Claims

/-! ## Memory, stack, operands -/

/-- R51: a byte written is read back, whatever its address, every other byte is as before, and a write changes nothing but
memory. -/
def Obligations.MemoryReturnsWhatWasWritten : Prop :=
  ∀ (s : State) (a : Addr) (v : Byte), onlyByte a v s (s.write a v) ∧ s.write a v = { s with mem := (s.write a v).mem }

/-- 20_memory R52, R53 (decisions D5, D30), R57: a word is read low byte first, its second address wrapping modulo 65536; the
three vectors and the stack page lie where the address map says. -/
def Obligations.WordsAreReadLowByteFirst : Prop :=
  (∀ (s : State) (a : Addr), lo (s.read16 a) = s.read a ∧ hi (s.read16 a) = s.read (a + 1) ∧
    (a + 1 : Addr).toNat = (a.toNat + 1) % 65536) ∧
  Config.vecNmi = 0xFFFA ∧ Config.vecReset = 0xFFFC ∧ Config.vecIrq = 0xFFFE ∧ ∀ sp : Byte, hi (stackAddr sp) = 0x01

/-- R69, R258, R261, R278, R279, R283, each as an event (log entries 5 to 7, 22, 24), and each changing its own part only: the loader
puts byte `i` of an image at address `i` as far as the address space goes; the host writes one byte; it reads the platform
addresses from their metadata words; a key is offered to the poll; the cancel flag is set; the host starts or stops stepping. The core's `step()` is a core step
whatever the controller does, and leaves the controller alone. -/
def Obligations.HostEventsChangeOnlyTheirPart : Prop :=
  (∀ (image : List Byte), eventLeads (.load image) (fun _ => True) (fun s t =>
    (∀ q : Addr, t.read q = if q.toNat < image.length then image.getD q.toNat 0 else s.read q) ∧
    cpuKept s t ∧ t.ctl = s.ctl ∧ t.host = s.host)) ∧
  (∀ a v, eventLeads (.hostWrite a v) (fun _ => True) (fun s t =>
    onlyByte a v s t ∧ cpuKept s t ∧ t.ctl = s.ctl ∧ t.host = s.host)) ∧
  (∀ i r w, eventLeads (.discover i r w) (fun _ => True) (fun s t =>
    t = { s with host := { s.host with platform := ⟨s.read16 i, s.read16 r, s.read16 w⟩ } })) ∧
  (∀ b, eventLeads (.key b) (fun _ => True) (fun s t => t = { s with host := { s.host with keys := s.host.keys ++ [b] } })) ∧
  eventLeads .cancel (fun _ => True) (fun s t => t = { s with ctl := { s.ctl with cancel := true } }) ∧
  (∀ on, eventLeads (.hostStepping on) (fun _ => True) (fun s t => t = { s with host := { s.host with stepping := on } })) ∧
  eventLeads .step (fun _ => True) (fun s t => cpuStep s = .next t ∧ t.ctl = s.ctl)

/-- R58, R59: a push writes the byte `SP` names and then decrements; a pull increments and then reads. -/
def Obligations.PushAndPullMoveOneByte : Prop :=
  (∀ (v : Byte) (s : State), onlyByte (stackAddr s.sp) v s (push8 v s) ∧ (push8 v s).sp = s.sp - 1 ∧
    push8 v s = { s with sp := (push8 v s).sp, mem := (push8 v s).mem }) ∧
  (∀ s : State, (pull8 s).1 = s.read (stackAddr (s.sp + 1)) ∧ (pull8 s).2 = { s with sp := s.sp + 1 })

/-- 20_memory section 6 (R60 to R62, R21): a pushed word lies low byte lower and a pull gives it back and restores `SP`, also
when `SP` wraps; every stack address lies in page 1, and at `SP` 0 the word's bytes land at 0x0100 and 0x01FF. The round trip
and the wrap are the spec's own inferences from R21 and R58 to R60. -/
def Obligations.PushedWordIsPulledBackFromPageOne : Prop :=
  (∀ (w : Addr) (s : State),
    (push16 w s).read (stackAddr ((push16 w s).sp + 1)) = lo w ∧
    (push16 w s).read (stackAddr ((push16 w s).sp + 2)) = hi w ∧
    (pull16 (push16 w s)).1 = w ∧ (pull16 (push16 w s)).2.sp = s.sp) ∧
  (∀ sp : Byte, (stackAddr sp).toNat = 0x0100 + sp.toNat) ∧
  (∀ (w : Addr) (s : State), s.sp = 0x00 →
    (push16 w s).read 0x0100 = hi w ∧ (push16 w s).read 0x01FF = lo w ∧ (push16 w s).sp = 0xFE)

/-- R40: `SetZN(v)` writes Z and N from `v` and nothing else. -/
def Obligations.SetZNWritesTwoFlags : Prop :=
  ∀ (v : Byte) (s : State), zeroSign v (setZN v s) ∧ (∀ f, f ≠ .z → f ≠ .n → (setZN v s).flag f = s.flag f) ∧
    setZN v s = { s with p := (setZN v s).p }

/-- R105, R106, R109, R110: zero-page indexing wraps in page 0 and never crosses; absolute indexing wraps modulo 65536 and
crosses exactly when the high byte changes. The operand bytes `PC` passes are 1 and 2. The opcodes of mode zpy are those of
LDX and STX and two undefined ones of the default table. -/
def Obligations.IndexedAddressesWrap : Prop :=
  ∀ (b : Byte) (w : Addr) (s : State),
    (∃ a, effAddr (.zpx b) s = some a ∧ a.toNat = (b.toNat + s.x.toNat) % 256 ∧ pageCross (.zpx b) s = false ∧
      Mode.zpx.operandBytes = 1) ∧
    (∃ a, effAddr (.zpy b) s = some a ∧ a.toNat = (b.toNat + s.y.toNat) % 256 ∧ pageCross (.zpy b) s = false ∧
      Mode.zpy.operandBytes = 1) ∧
    (∃ a, effAddr (.absx w) s = some a ∧ a.toNat = (w.toNat + s.x.toNat) % 65536 ∧
      (pageCross (.absx w) s = true ↔ hi w ≠ hi a) ∧ Mode.absx.operandBytes = 2) ∧
    (∃ a, effAddr (.absy w) s = some a ∧ a.toNat = (w.toNat + s.y.toNat) % 65536 ∧
      (pageCross (.absy w) s = true ↔ hi w ≠ hi a) ∧ Mode.absy.operandBytes = 2) ∧
    ∀ op : Byte, (descriptor defaultUndefDesc op).2 = .zpy ↔ op ∈ [0x96, 0xB6, 0x97, 0xB7]

/-- R111, R112: the indirect pointer's high byte comes from the pointer's own page; `(zp,X)` wraps both the index and the
pointer's second byte in page 0. Mode ind has one opcode with the default table. -/
def Obligations.IndirectPointersWrapInTheirPage : Prop :=
  ∀ (b : Byte) (w : Addr) (s : State),
    (∃ a p2, effAddr (.ind w) s = some a ∧ lo a = s.read w ∧ hi a = s.read p2 ∧
      p2.toNat = 256 * (w.toNat / 256) + (w.toNat + 1) % 256 ∧ Mode.ind.operandBytes = 2) ∧
    (∃ a z z2, effAddr (.indx b) s = some a ∧ lo a = s.read z ∧ hi a = s.read z2 ∧
      z.toNat = (b.toNat + s.x.toNat) % 256 ∧ z2.toNat = (b.toNat + s.x.toNat + 1) % 256 ∧
      pageCross (.indx b) s = false ∧ Mode.indx.operandBytes = 1) ∧
    ∀ op : Byte, (descriptor defaultUndefDesc op).2 = .ind ↔ op = 0x6C

/-- R102 to R104, R108, R113 to R115: what the modes without a wrap of their own address; `(zp),Y` takes its pointer from page 0,
wrapping (the spec's decision D16), and adds `Y` modulo 65536; the operand is `A` in mode acc, the instruction's byte in mode
imm, and in every other mode that names an address the byte there, which is where a result goes. That mode imm has no effective
address and takes its value from the decoded instruction is the model's choice (log entry 11, DEDUCED; R100 and R103 give it the
address of its operand byte): of an instruction decoded at `PC`, that value is the byte at that address. R116: no mode but absx,
absy and indy ever crosses. -/
def Obligations.OperandsAreReadWhereTheModeSays : Prop :=
  (∀ (b : Byte) (w : Addr) (s : State),
    effAddr (.zp b) s = some (b.zeroExtend 16) ∧ Mode.zp.operandBytes = 1 ∧
    effAddr (.abs w) s = some w ∧ Mode.abs.operandBytes = 2 ∧
    getValue (.imm b) s = b ∧ Mode.imm.operandBytes = 1 ∧ getValue .acc s = s.a ∧ Mode.acc.operandBytes = 0 ∧
    ∃ (a base z2 : Addr), effAddr (.indy b) s = some a ∧ lo base = s.read (b.zeroExtend 16) ∧
      hi base = s.read z2 ∧ z2.toNat = (b.toNat + 1) % 256 ∧ a.toNat = (base.toNat + s.y.toNat) % 65536 ∧
      (pageCross (.indy b) s = true ↔ hi base ≠ hi a) ∧ Mode.indy.operandBytes = 1) ∧
  (∀ (o : Operand) (s : State), effAddr o s = none ↔ o.mode ∈ [.imp, .acc, .imm, .rel]) ∧
  (∀ (o : Operand) (s : State) (ea : Addr) (v : Byte), effAddr o s = some ea →
    getValue o s = s.read ea ∧ putValue o v s = s.write ea v) ∧
  (∀ (s : State) (v : Byte), putValue .acc v s = { s with a := v }) ∧
  (∀ (s : State) (i : Instr) (rest : List Byte), i.operand.mode = .imm →
    decode s.params.undefDesc [s.read s.pc, s.read (s.pc + 1), s.read (s.pc + 2)] = .ok (i, rest) →
    getValue i.operand s = s.read (s.pc + 1)) ∧
  ∀ (o : Operand) (s : State), o.mode ∉ [.absx, .absy, .indy] → pageCross o s = false

/-! ## Decoding -/

/-- R83: all 256 opcode values decode, to the descriptor's mnemonic, mode and length, with the bytes after the instruction
left over; the undefined ones are those of R85, their mode is the parameter's (log entry 13), that of every other opcode does
not depend on it, and with the default table the undefined opcodes of each mode are those of R231's rows. -/
def Obligations.EveryOpcodeDecodes : Prop :=
  (∀ (d : UndefDesc) (op b1 b2 : Byte) (rest : List Byte), ∃ i,
    decode d (op :: b1 :: b2 :: rest) = .ok (i, (op :: b1 :: b2 :: rest).drop i.length) ∧ i.wf = true ∧
    i.mnemonic = (descriptor d op).1 ∧ i.operand.mode = (descriptor d op).2 ∧ i.length = (descriptor d op).2.length) ∧
  (∀ (d : UndefDesc) (op : Byte), op.toNat ∈ undefinedOpcodes → descriptor d op = (.und, modeIn d op.toNat)) ∧
  (∀ (d e : UndefDesc) (op : Byte), op.toNat ∉ undefinedOpcodes →
    (descriptor d op).1 ≠ .und ∧ descriptor d op = descriptor e op) ∧
  (∀ (op : Byte) (m : Mode), descriptor defaultUndefDesc op = (.und, m) ↔ ∃ l, op ∈ l ∧ (m, l) ∈ ([
      (.imp, [0x02, 0x12, 0x1A, 0x22, 0x32, 0x3A, 0x42, 0x52, 0x5A, 0x62, 0x72, 0x7A, 0x92, 0xB2, 0xD2, 0xDA, 0xF2, 0xFA]),
      (.imm, [0x0B, 0x2B, 0x4B, 0x6B, 0x80, 0x82, 0x89, 0x8B, 0xAB, 0xC2, 0xCB, 0xE2, 0xEB]),
      (.zp, [0x04, 0x07, 0x27, 0x44, 0x47, 0x64, 0x67, 0x87, 0xA7, 0xC7, 0xE7]),
      (.zpx, [0x14, 0x17, 0x34, 0x37, 0x54, 0x57, 0x74, 0x77, 0xD4, 0xD7, 0xF4, 0xF7]),
      (.zpy, [0x97, 0xB7]),
      (.abs, [0x0C, 0x0F, 0x2F, 0x4F, 0x6F, 0x8F, 0xAF, 0xCF, 0xEF]),
      (.absx, [0x1C, 0x1F, 0x3C, 0x3F, 0x5C, 0x5F, 0x7C, 0x7F, 0x9C, 0xDC, 0xDF, 0xFC, 0xFF]),
      (.absy, [0x1B, 0x3B, 0x5B, 0x7B, 0x9B, 0x9E, 0x9F, 0xBB, 0xBF, 0xDB, 0xFB]),
      (.indx, [0x03, 0x23, 0x43, 0x63, 0x83, 0xA3, 0xC3, 0xE3]),
      (.indy, [0x13, 0x33, 0x53, 0x73, 0x93, 0xB3, 0xD3, 0xF3])] : List (Mode × List Byte)))

/-- Decoding the encoding of a well-formed instruction, with any bytes after it, gives it back and those bytes: no bit of an
operand is dropped. An undefined opcode decodes in the mode `UNDEF_DESC` gives it, and some `UNDEF_DESC` gives it any mode. -/
def Obligations.DecodeInvertsEncode : Prop :=
  (∀ (d : UndefDesc) (i : Instr) (rest : List Byte), i.wf = true → i.describedBy d →
    decode d (encode i ++ rest) = .ok (i, rest)) ∧
  ∀ i : Instr, ∃ d : UndefDesc, i.describedBy d

/-- Encoding what was decoded gives back the bytes: each byte sequence has one meaning. -/
def Obligations.EncodeInvertsDecode : Prop :=
  ∀ (d : UndefDesc) (bytes rest : List Byte) (i : Instr), decode d bytes = .ok (i, rest) → encode i ++ rest = bytes

/-- R84, R231: some words, written out from the opcode map, decode to the instructions they stand for. -/
def Obligations.WordsDecodeAsTheMapSays : Prop :=
  decodeTableWord 16 0x05A9 = some (.lda (.imm 0x05)) ∧ decodeTableWord 24 0x12F0BD = some (.lda (.absx 0x12F0)) ∧
  decodeTableWord 16 0x2091 = some (.sta (.indy 0x20)) ∧ decodeTableWord 24 0x300020 = some (.jsr 0x3000) ∧
  decodeTableWord 24 0x02FF6C = some (.jmp (.ind 0x02FF)) ∧ decodeTableWord 16 0xF9D0 = some (.bne 0xF9) ∧
  decodeTableWord 8 0x00 = some .brk ∧ decodeTableWord 8 0x6A = some (.ror .acc) ∧
  decodeTableWord 16 0x55EB = some (.und 0xEB (.imm 0x55))

/-! ## The step -/

/-- R305, R86: the core's `step()` is the instruction decoded from the bytes at `PC`, `PC + 1`, `PC + 2`; moving past them, the
Constant flag and the cost are in the instruction's own statement. It is what a `step()` event does, whatever the controller does
(R283), and what a step does with nothing pending in `Idle` while the host steps the core by itself (log entry 24). -/
def Obligations.StepRunsTheDecodedInstruction : Prop :=
  ∀ (s : State) (i : Instr) (rest : List Byte),
    decode s.params.undefDesc [s.read s.pc, s.read (s.pc + 1), s.read (s.pc + 2)] = .ok (i, rest) →
    cpuStep s = exec i s ∧
    (∀ l : List Event, s.host.pending = .step :: l → step s = exec i (s.setHost { s.host with pending := l })) ∧
    (s.host.pending = [] → s.ctl.ctrl = .idle → s.host.stepping = true → step s = exec i s)

/-- R276 parts 3 to 5, R279: in a run, with nothing to cancel, no key to deliver (in Continuous none is offered or busy is set;
SteppingN forwards none) and no breakpoint to stop at, a step is the decoded instruction with `at_bp` cleared, and then the IX
test and the count. It is so with nothing pending, while an event waits (a key with busy set, D24; a command, R270), and by a
proceed event (log entry 6). -/
def Obligations.RunningControllerRunsTheDecodedInstruction : Prop :=
  ∀ (p s t : State) (i : Instr) (rest : List Byte), goesOnFrom p s → s.ctl.ctrl ≠ .idle →
    (s.ctl.ctrl = .continuous → s.ctl.cancel = false ∧ (s.host.keys = [] ∨ busy s = true)) →
    (s.ctl.atBp = true ∨ hit s = none) →
    decode s.params.undefDesc [s.read s.pc, s.read (s.pc + 1), s.read (s.pc + 2)] = .ok (i, rest) →
    exec i (s.setCtl { s.ctl with atBp := false }) = .next t → step p = .next (afterStep t)

/-- The environment's events happen in order (log entry 6, the model's choice): the next one if it may happen now, taken off
the list; otherwise it stays and the machine goes on, as it does with none, and as a proceed event has it do. It goes on by an iteration of a run; in `Idle` the CPU
is stopped and nothing changes (R270), unless the host steps the core by itself (R283; log entry 24). A key may be delivered only
while busy is clear (R259), a command only reaches the controller in `Idle` (R270); every other event always may happen. -/
def Obligations.PendingEventsHappenInOrder : Prop :=
  (∀ (s : State) (e : Event) (rest : List Event), s.host.pending = e :: rest →
    (enabled e s = true → step s = fire e (s.setHost { s.host with pending := rest })) ∧
    (enabled e s = false → step s = proceed s)) ∧
  (∀ s : State, s.host.pending = [] → step s = proceed s) ∧
  (∀ (s : State) (rest : List Event), s.host.pending = .proceed :: rest →
    step s = proceed (s.setHost { s.host with pending := rest })) ∧
  (∀ s : State, (s.ctl.ctrl ≠ .idle → proceed s = iterate s) ∧
    (s.ctl.ctrl = .idle → s.host.stepping = false → proceed s = .next s) ∧
    (s.ctl.ctrl = .idle → s.host.stepping = true → proceed s = cpuStep s)) ∧
  ∀ (s : State) (e : Event), enabled e s = true ↔
    (∀ b, e = .deliverKey b → (s.read s.host.platform.ix).getLsbD 1 = false) ∧ (isCommand e → s.ctl.ctrl = .idle)

/-- 00_scope R8 over the model's steps (log entries 6, 12): every step, whatever it is (an instruction, an interrupt, a reset,
a command), has a successor state. -/
def Obligations.EveryStepHasASuccessor : Prop := ∀ s : State, ∃ t, step s = .next t

/-- Every step keeps the invariant: memory's canonical form, the Constant flag 1 (R29), the controller's counter positive
exactly in SteppingN (R34), the counters and the breakpoint table within the parameters (R4); and no step changes a parameter
(R37). The canonical form is the model's choice of data (log entry 1). -/
def Obligations.EveryStepKeepsTheInvariant : Prop :=
  ∀ s t : State, Inv s → step s = .next t → Inv t ∧ t.params = s.params

/-- The invariant holds right after reset. -/
def Obligations.ResetStateMeetsTheInvariant : Prop := Inv State.reset

/-- R41 and R284: the values the spec gives for the state after reset; but for `PC`, which R41 takes from the unwritten bytes of
the vector, it is what `reset()` makes of the power-on state, with nothing in memory. The values of `PC` and of what reset keeps
are the model's choice (log entries 2 to 4) and not stated. The parameters have the values R4 decides or gives as defaults. -/
def Obligations.ResetStateHoldsTheSpecsValues : Prop :=
  State.reset.a = 0x00 ∧ State.reset.x = 0x00 ∧ State.reset.y = 0x00 ∧ State.reset.sp = 0xFD ∧
  State.reset.flag .u = true ∧ State.reset.ctl = ⟨.idle, 0, false, [], false⟩ ∧ State.reset.mem = [] ∧
  State.reset = { resetCpu State.powerOn with pc := State.reset.pc } ∧ State.reset.params = {
    undefDesc := defaultUndefDesc, cycles := defaultCycles, cntWidth := none, bpCapacity := none, irqRespectsI := false,
    decAdc := .nibble, decSbc := .nibble, decFlags := .binary }

/-- R300 with D4, as an event (log entry 6): `reset()` loads `PC` from the reset vector, clears `A`, `X`, `Y`,
sets `SP` and the Constant flag, and keeps everything else. -/
def Obligations.ResetEventWritesOnlyRegisters : Prop :=
  eventLeads .reset (fun _ => True) (fun s t =>
    lo t.pc = s.read 0xFFFC ∧ hi t.pc = s.read 0xFFFD ∧ t.a = 0x00 ∧ t.x = 0x00 ∧ t.y = 0x00 ∧ t.sp = 0xFD ∧
    t.flag .u = true ∧ flagsKept [] s t ∧ memoryKept s t ∧ t.clockticks = s.clockticks ∧ t.clockgoal = s.clockgoal ∧
    t.ctl = s.ctl ∧ t.host = s.host ∧ t.params = s.params)

/-! ## Loads, stores, transfers -/

/-- R120 to R122: LDA, LDX, LDY. -/
def Obligations.LoadsFillARegister : Prop :=
  rows .lda [(.imm, 0xA9), (.zp, 0xA5), (.zpx, 0xB5), (.abs, 0xAD), (.absx, 0xBD), (.absy, 0xB9), (.indx, 0xA1), (.indy, 0xB1)] ∧
  eligible .lda = true ∧ loadsA .lda getValue ∧
  rows .ldx [(.imm, 0xA2), (.zp, 0xA6), (.zpy, 0xB6), (.abs, 0xAE), (.absy, 0xBE)] ∧ eligible .ldx = true ∧
  rows .ldy [(.imm, 0xA0), (.zp, 0xA4), (.zpx, 0xB4), (.abs, 0xAC), (.absx, 0xBC)] ∧ eligible .ldy = true ∧
  (∀ o s, (Instr.ldx o).wf = true → ∃ t, exec (.ldx o) s = .next t ∧ t.x = getValue o s ∧ t.a = s.a ∧ t.y = s.y ∧
    t.sp = s.sp ∧ t.pc = past (.ldx o) s ∧ zeroSign (getValue o s) t ∧ flagsKept [.z, .n] s t ∧ memoryKept s t ∧
    accounted (.ldx o) 0 s t) ∧
  (∀ o s, (Instr.ldy o).wf = true → ∃ t, exec (.ldy o) s = .next t ∧ t.y = getValue o s ∧ t.a = s.a ∧ t.x = s.x ∧
    t.sp = s.sp ∧ t.pc = past (.ldy o) s ∧ zeroSign (getValue o s) t ∧ flagsKept [.z, .n] s t ∧ memoryKept s t ∧
    accounted (.ldy o) 0 s t)

/-- R123 to R125: STA, STX, STY store their register at the effective address and change nothing else of memory. -/
def Obligations.StoresWriteOneByte : Prop :=
  rows .sta [(.zp, 0x85), (.zpx, 0x95), (.abs, 0x8D), (.absx, 0x9D), (.absy, 0x99), (.indx, 0x81), (.indy, 0x91)] ∧
  rows .stx [(.zp, 0x86), (.zpy, 0x96), (.abs, 0x8E)] ∧ rows .sty [(.zp, 0x84), (.zpx, 0x94), (.abs, 0x8C)] ∧
  eligible .sta = false ∧
  storesRegister .sta (·.a) ∧ storesRegister .stx (·.x) ∧ storesRegister .sty (·.y)

/-- R126 to R129, and R130, R131 in what TSX and TXS do: the transfers; TXS, alone, sets no flag. -/
def Obligations.TransfersCopyARegister : Prop :=
  transfers .tax 0xAA (·.a) (fun s t => t.x = s.a ∧ t.a = s.a ∧ t.y = s.y) ∧
  transfers .tay 0xA8 (·.a) (fun s t => t.y = s.a ∧ t.a = s.a ∧ t.x = s.x) ∧
  transfers .txa 0x8A (·.x) (fun s t => t.a = s.x ∧ t.x = s.x ∧ t.y = s.y) ∧
  transfers .tya 0x98 (·.y) (fun s t => t.a = s.y ∧ t.x = s.x ∧ t.y = s.y) ∧
  transfers .tsx 0xBA (·.sp) (fun s t => t.x = s.sp ∧ t.a = s.a ∧ t.y = s.y) ∧
  encode .txs = [0x9A] ∧ ∀ s, ∃ t, exec .txs s = .next t ∧ t.sp = s.x ∧ t.a = s.a ∧ t.x = s.x ∧ t.y = s.y ∧
    t.pc = s.pc + 1 ∧ flagsKept [] s t ∧ memoryKept s t ∧ accounted .txs 0 s t

/-! ## Stack instructions -/

/-- R140, R142: PHA and PLA. -/
def Obligations.PhaAndPlaMoveTheAccumulator : Prop :=
  encode .pha = [0x48] ∧ encode .pla = [0x68] ∧
  (∀ s, ∃ t, exec .pha s = .next t ∧ onlyByte (stackAddr s.sp) s.a s t ∧ t.sp = s.sp - 1 ∧ t.a = s.a ∧ t.x = s.x ∧
    t.y = s.y ∧ t.pc = s.pc + 1 ∧ flagsKept [] s t ∧ accounted .pha 0 s t) ∧
  (∀ s, ∃ t, exec .pla s = .next t ∧ t.a = s.read (stackAddr (s.sp + 1)) ∧ t.sp = s.sp + 1 ∧
    zeroSign (s.read (stackAddr (s.sp + 1))) t ∧ flagsKept [.z, .n] s t ∧ t.x = s.x ∧ t.y = s.y ∧ t.pc = s.pc + 1 ∧
    memoryKept s t ∧ accounted .pla 0 s t)

/-- 42_stack, PHP and PLP, with the spec's decisions D6 and D7 on bits 4 and 5 (log entry 17): PHP pushes `P` with both
set, PLP loads every bit and sets bit 5. The Constant flag of the `P` that PHP pushes was set by the fetch. -/
def Obligations.PhpAndPlpMoveTheStatus : Prop :=
  encode .php = [0x08] ∧ encode .plp = [0x28] ∧
  (∀ s, ∃ t, exec .php s = .next t ∧ onlyByte (stackAddr s.sp) (s.p ||| 0x30) s t ∧ t.sp = s.sp - 1 ∧ t.a = s.a ∧
    t.x = s.x ∧ t.y = s.y ∧ t.pc = s.pc + 1 ∧ flagsKept [] s t ∧ accounted .php 0 s t) ∧
  (∀ s, ∃ t, exec .plp s = .next t ∧ t.p = (s.read (stackAddr (s.sp + 1)) ||| 0x20) ∧ t.sp = s.sp + 1 ∧ t.a = s.a ∧
    t.x = s.x ∧ t.y = s.y ∧ t.pc = s.pc + 1 ∧ memoryKept s t ∧ accounted .plp 0 s t)

/-! ## Arithmetic -/

/-- R150: the flags of the shared adder, in numbers: the sum modulo 256, C when it exceeds 8 bits, Z and N of the truncated
sum, V when the signed sum is outside -128 to 127. -/
def Obligations.AdderFlagsAreTheSums : Prop :=
  ∀ (a m : Byte) (cin : Bool) (s : State),
    (sumByte a m cin).toNat = (a.toNat + m.toNat + cin.toNat) % 256 ∧
    ((addFlags a m cin s).flag .c = true ↔ 256 ≤ a.toNat + m.toNat + cin.toNat) ∧
    zeroSign (sumByte a m cin) (addFlags a m cin s) ∧
    ((addFlags a m cin s).flag .v = true ↔ a.toInt + m.toInt + cin.toNat < -128 ∨ 127 < a.toInt + m.toInt + cin.toNat) ∧
    (∀ f, f ∉ [.c, .z, .n, .v] → (addFlags a m cin s).flag f = s.flag f) ∧
    addFlags a m cin s = { s with p := (addFlags a m cin s).p }

/-- R151: ADC, with the shared adder's sum and flags (R150) and, in decimal mode, `A` and C replaced by the parameter `DEC_ADC`,
Z, N and V staying the binary sum's (where the parameter `decFlags` does not say otherwise; log entry 14). -/
def Obligations.AdcAddsWithCarry : Prop :=
  rows .adc [(.imm, 0x69), (.zp, 0x65), (.zpx, 0x75), (.abs, 0x6D), (.absx, 0x7D), (.absy, 0x79), (.indx, 0x61), (.indy, 0x71)] ∧
  eligible .adc = true ∧
  ∀ o s, (Instr.adc o).wf = true → ∃ t, exec (.adc o) s = .next t ∧
    t.a = (if s.flag .d = true then (decimalAdc s.params.decAdc s.a (getValue o s) (s.flag .c)).1
      else sumByte s.a (getValue o s) (s.flag .c)) ∧
    t.flag .c = (if s.flag .d = true then (decimalAdc s.params.decAdc s.a (getValue o s) (s.flag .c)).2
      else decide (256 ≤ s.a.toNat + (getValue o s).toNat + (s.flag .c).toNat)) ∧
    (s.flag .d = false ∨ s.params.decFlags = .binary →
      zeroSign (sumByte s.a (getValue o s) (s.flag .c)) t ∧ t.flag .v = sumOverflow s.a (getValue o s) (s.flag .c)) ∧
    flagsKept [.c, .z, .v, .n] s t ∧ memoryKept s t ∧ othersKept (.adc o) (if s.flag .d = true then 1 else 0) s t

/-- R152: SBC: outside decimal mode `A` minus operand minus borrow modulo 256; C is "no borrow", in decimal mode too; Z, N and
V are the adder's for the complemented operand; in decimal mode `A` is replaced by the parameter `DEC_SBC`, Z, N and V staying
the binary sum's (where the parameter `decFlags` does not say otherwise; log entry 14). -/
def Obligations.SbcSubtractsWithBorrow : Prop :=
  rows .sbc [(.imm, 0xE9), (.zp, 0xE5), (.zpx, 0xF5), (.abs, 0xED), (.absx, 0xFD), (.absy, 0xF9), (.indx, 0xE1), (.indy, 0xF1)] ∧
  eligible .sbc = true ∧
  ∀ o s, (Instr.sbc o).wf = true → ∃ t, exec (.sbc o) s = .next t ∧
    (s.flag .d = false → t.a = s.a - getValue o s - (if s.flag .c = true then 0 else 1)) ∧
    (s.flag .d = true → t.a = decimalSbc s.params.decSbc s.a (getValue o s) (s.flag .c)) ∧
    (t.flag .c = true ↔ (getValue o s).toNat + (if s.flag .c = true then 0 else 1) ≤ s.a.toNat) ∧
    (s.flag .d = false ∨ s.params.decFlags = .binary →
      zeroSign (s.a - getValue o s - (if s.flag .c = true then 0 else 1)) t ∧
      t.flag .v = sumOverflow s.a (getValue o s ^^^ 0xFF) (s.flag .c)) ∧
    flagsKept [.c, .z, .v, .n] s t ∧ memoryKept s t ∧ othersKept (.sbc o) (if s.flag .d = true then 1 else 0) s t

/-- 43_arithmetic R153, R154, the decimal corrections (the spec's decisions D10, D11; log entry 14). For every operand they are
the digit formulas; and for packed BCD operands ADC's result is the packed BCD of the sum modulo 100, with the carry saying
whether the sum is 100 or more, and SBC's is the packed BCD of the difference modulo 100, with the binary carry being the decimal
"no borrow". Where the parameter `decFlags` says `corrected`, Z, N and V describe the corrected byte: what that parameter's other
value means is the model's choice (log entry 14). -/
def Obligations.DecimalCorrectionsAreTheDigitFormulas : Prop :=
  (∀ (a m : Byte) (cin : Bool),
    (∃ low al high ah : Nat,
      low = a.toNat % 16 + m.toNat % 16 + cin.toNat ∧ al = (if 9 < low then low + 6 else low) ∧
      high = a.toNat / 16 + m.toNat / 16 + (if 15 < al then 1 else 0) ∧ ah = (if 9 < high then high + 6 else high) ∧
      (decimalAdc .nibble a m cin).1.toNat = 16 * (ah % 16) + al % 16 ∧
      ((decimalAdc .nibble a m cin).2 = true ↔ 15 < ah)) ∧
    (∃ low al t : Int,
      low = (a.toNat % 16 : Nat) - (m.toNat % 16 : Nat) + (cin.toNat : Nat) - 1 ∧
      al = (if low < 0 then (low - 6) % 16 - 16 else low) ∧
      t = (a &&& 0xF0).toNat - (m &&& 0xF0).toNat + al ∧
      ((decimalSbc .nibble a m cin).toNat : Int) = (if t < 0 then t - 0x60 else t) % 256)) ∧
  (∀ (a m : Byte) (cin : Bool), isBcd a → isBcd m →
    (isBcd (decimalAdc .nibble a m cin).1 ∧
      bcdValue (decimalAdc .nibble a m cin).1 = (bcdValue a + bcdValue m + cin.toNat) % 100 ∧
      ((decimalAdc .nibble a m cin).2 = true ↔ 100 ≤ bcdValue a + bcdValue m + cin.toNat)) ∧
    (isBcd (decimalSbc .nibble a m cin) ∧
      (bcdValue (decimalSbc .nibble a m cin) : Int) = ((bcdValue a : Int) - bcdValue m - (1 - cin.toNat)) % 100 ∧
      (256 ≤ sumOf a (m ^^^ 0xFF) cin ↔ bcdValue m + 1 ≤ bcdValue a + cin.toNat))) ∧
  ∀ (o : Operand) (s t : State), s.flag .d = true → s.params.decFlags = .corrected →
    (exec (.adc o) s = .next t → zeroSign t.a t ∧ t.flag .v = overflowOf s.a (getValue o s) t.a) ∧
    (exec (.sbc o) s = .next t → zeroSign t.a t ∧ t.flag .v = overflowOf s.a (getValue o s ^^^ 0xFF) t.a)

/-- R155 to R158: CMP, CPX, CPY. -/
def Obligations.ComparesSetCarryZeroSign : Prop :=
  rows .cmp [(.imm, 0xC9), (.zp, 0xC5), (.zpx, 0xD5), (.abs, 0xCD), (.absx, 0xDD), (.absy, 0xD9), (.indx, 0xC1), (.indy, 0xD1)] ∧
  rows .cpx [(.imm, 0xE0), (.zp, 0xE4), (.abs, 0xEC)] ∧ rows .cpy [(.imm, 0xC0), (.zp, 0xC4), (.abs, 0xCC)] ∧
  eligible .cmp = true ∧
  compares .cmp (·.a) ∧ compares .cpx (·.x) ∧ compares .cpy (·.y)

/-- R159, R162: INC and DEC change the byte at the effective address by one and let Z and N describe it. -/
def Obligations.IncAndDecChangeMemoryByOne : Prop :=
  rows .inc [(.zp, 0xE6), (.zpx, 0xF6), (.abs, 0xEE), (.absx, 0xFE)] ∧
  rows .dec [(.zp, 0xC6), (.zpx, 0xD6), (.abs, 0xCE), (.absx, 0xDE)] ∧ eligible .inc = false ∧ eligible .dec = false ∧
  modifiesOperand .inc [.z, .n] (fun v _ => v + 1) ∧ modifiesOperand .dec [.z, .n] (fun v _ => v - 1)

/-- R160, R161, R163, R164: INX, INY, DEX, DEY. -/
def Obligations.IndexRegistersChangeByOne : Prop :=
  transfers .inx 0xE8 (fun s => s.x + 1) (fun s t => t.x = s.x + 1 ∧ t.a = s.a ∧ t.y = s.y) ∧
  transfers .iny 0xC8 (fun s => s.y + 1) (fun s t => t.y = s.y + 1 ∧ t.a = s.a ∧ t.x = s.x) ∧
  transfers .dex 0xCA (fun s => s.x - 1) (fun s t => t.x = s.x - 1 ∧ t.a = s.a ∧ t.y = s.y) ∧
  transfers .dey 0x88 (fun s => s.y - 1) (fun s t => t.y = s.y - 1 ∧ t.a = s.a ∧ t.x = s.x)

/-! ## Logic, shifts -/

/-- R170 to R172: AND, ORA, EOR are bitwise on `A`. -/
def Obligations.LogicIsBitwise : Prop :=
  rows .and [(.imm, 0x29), (.zp, 0x25), (.zpx, 0x35), (.abs, 0x2D), (.absx, 0x3D), (.absy, 0x39), (.indx, 0x21), (.indy, 0x31)] ∧
  rows .ora [(.imm, 0x09), (.zp, 0x05), (.zpx, 0x15), (.abs, 0x0D), (.absx, 0x1D), (.absy, 0x19), (.indx, 0x01), (.indy, 0x11)] ∧
  rows .eor [(.imm, 0x49), (.zp, 0x45), (.zpx, 0x55), (.abs, 0x4D), (.absx, 0x5D), (.absy, 0x59), (.indx, 0x41), (.indy, 0x51)] ∧
  eligible .and = true ∧ eligible .ora = true ∧ eligible .eor = true ∧
  loadsA .and (fun o s => s.a &&& getValue o s) ∧ loadsA .ora (fun o s => s.a ||| getValue o s) ∧
  loadsA .eor (fun o s => s.a ^^^ getValue o s)

/-- R173: BIT takes Z from the AND, N and V from bits 7 and 6 of the operand, and keeps `A`. -/
def Obligations.BitTestReadsThreeFlags : Prop :=
  rows .bit [(.zp, 0x24), (.abs, 0x2C)] ∧
  ∀ o s, (Instr.bit o).wf = true → ∃ t, exec (.bit o) s = .next t ∧ t.flag .z = decide (s.a &&& getValue o s = 0) ∧
    t.flag .n = (getValue o s).getLsbD 7 ∧ t.flag .v = (getValue o s).getLsbD 6 ∧ flagsKept [.z, .v, .n] s t ∧
    registersKept s t ∧ t.pc = past (.bit o) s ∧ memoryKept s t ∧ accounted (.bit o) 0 s t

/-- R174 to R177: ASL doubles modulo 256, LSR halves (N always 0 after it), ROL and ROR rotate the nine bits of carry and
operand; C is the bit moved out. -/
def Obligations.ShiftsAndRotatesMoveOneBit : Prop :=
  rows .asl [(.acc, 0x0A), (.zp, 0x06), (.zpx, 0x16), (.abs, 0x0E), (.absx, 0x1E)] ∧
  rows .lsr [(.acc, 0x4A), (.zp, 0x46), (.zpx, 0x56), (.abs, 0x4E), (.absx, 0x5E)] ∧
  eligible .asl = false ∧ eligible .lsr = false ∧
  modifiesOperand .asl [.c, .z, .n] (fun v _ => BitVec.ofNat 8 (2 * v.toNat)) ∧ carriesOut .asl (fun v => v.getLsbD 7) ∧
  modifiesOperand .lsr [.c, .z, .n] (fun v _ => BitVec.ofNat 8 (v.toNat / 2)) ∧ carriesOut .lsr (fun v => v.getLsbD 0) ∧
  (∀ o s t, exec (.lsr o) s = .next t → t.flag .n = false) ∧
  rows .rol [(.acc, 0x2A), (.zp, 0x26), (.zpx, 0x36), (.abs, 0x2E), (.absx, 0x3E)] ∧
  rows .ror [(.acc, 0x6A), (.zp, 0x66), (.zpx, 0x76), (.abs, 0x6E), (.absx, 0x7E)] ∧
  eligible .rol = false ∧ eligible .ror = false ∧
  modifiesOperand .rol [.c, .z, .n] (fun v c => BitVec.ofNat 8 (2 * v.toNat + c.toNat)) ∧
  carriesOut .rol (fun v => v.getLsbD 7) ∧
  modifiesOperand .ror [.c, .z, .n] (fun v c => BitVec.ofNat 8 (v.toNat / 2 + 128 * c.toNat)) ∧
  carriesOut .ror (fun v => v.getLsbD 0)

/-! ## Control flow -/

/-- R190: JMP sets `PC`: to the operand, or to the word at it with the high byte from the pointer's own page. -/
def Obligations.JmpLoadsThePc : Prop :=
  rows .jmp [(.abs, 0x4C), (.ind, 0x6C)] ∧
  (∀ o s, (Instr.jmp o).wf = true → ∃ t ea, exec (.jmp o) s = .next t ∧ effAddr o s = some ea ∧ t.pc = ea ∧
    registersKept s t ∧ flagsKept [] s t ∧ memoryKept s t ∧ accounted (.jmp o) 0 s t) ∧
  (∀ w s t, exec (.jmp (.abs w)) s = .next t → t.pc = w) ∧
  (∀ s t, exec (.jmp (.ind 0x02FF)) s = .next t → lo t.pc = s.read 0x02FF ∧ hi t.pc = s.read 0x0200)

/-- 45_control_flow, JSR: the address of its last byte is pushed, high byte first, and `PC` is the operand, which was read
before the pushes (the spec's decision D15, log entry 11). -/
def Obligations.JsrPushesItsLastByte : Prop :=
  ∀ w s, encode (.jsr w) = [0x20, lo w, hi w] ∧ ∃ t, exec (.jsr w) s = .next t ∧ t.pc = w ∧ t.sp = s.sp - 2 ∧
    t.read (stackAddr s.sp) = hi (s.pc + 2) ∧ t.read (stackAddr (s.sp - 1)) = lo (s.pc + 2) ∧
    (∀ q, q ≠ stackAddr s.sp → q ≠ stackAddr (s.sp - 1) → t.read q = s.read q) ∧
    t.a = s.a ∧ t.x = s.x ∧ t.y = s.y ∧ flagsKept [] s t ∧ accounted (.jsr w) 0 s t

/-- R192, first part: RTS pulls a word and adds 1. -/
def Obligations.RtsReturnsPastThePulledWord : Prop :=
  encode .rts = [0x60] ∧ ∀ s, ∃ t ret, exec .rts s = .next t ∧ lo ret = s.read (stackAddr (s.sp + 1)) ∧
    hi ret = s.read (stackAddr (s.sp + 2)) ∧ t.pc = ret + 1 ∧ t.sp = s.sp + 2 ∧ t.a = s.a ∧ t.x = s.x ∧ t.y = s.y ∧
    flagsKept [] s t ∧ memoryKept s t ∧ accounted .rts 0 s t

/-- 45_control_flow: after JSR at an address, a matching RTS goes on three bytes further and `SP` is restored (the spec's own
inference from R191, R60, R61). The subroutine between is any change that keeps `SP` and the two pushed bytes. -/
def Obligations.JsrThenRtsReturns : Prop :=
  ∀ (w : Addr) (s t u v : State), exec (.jsr w) s = .next t → u.sp = t.sp →
    u.read (stackAddr s.sp) = t.read (stackAddr s.sp) →
    u.read (stackAddr (s.sp - 1)) = t.read (stackAddr (s.sp - 1)) →
    exec .rts u = .next v → v.pc = s.pc + 3 ∧ v.sp = s.sp

/-- R193 to R201: the eight branches. -/
def Obligations.BranchesTestOneFlag : Prop :=
  branchesOn .bcc 0x90 .c false ∧ branchesOn .bcs 0xB0 .c true ∧ branchesOn .beq 0xF0 .z true ∧ branchesOn .bne 0xD0 .z false ∧
  branchesOn .bmi 0x30 .n true ∧ branchesOn .bpl 0x10 .n false ∧ branchesOn .bvc 0x50 .v false ∧ branchesOn .bvs 0x70 .v true

/-! ## Flags, system -/

/-- R210 to R217: the flag instructions write one bit; NOP changes nothing but what every step does. -/
def Obligations.FlagInstructionsWriteOneBitAndNopNone : Prop :=
  writesFlag .clc 0x18 .c false ∧ writesFlag .sec 0x38 .c true ∧ writesFlag .cli 0x58 .i false ∧ writesFlag .sei 0x78 .i true ∧
  writesFlag .clv 0xB8 .v false ∧ writesFlag .cld 0xD8 .d false ∧ writesFlag .sed 0xF8 .d true ∧
  encode .nop = [0xEA] ∧ ∀ s, ∃ t, exec .nop s = .next t ∧ registersKept s t ∧ t.pc = s.pc + 1 ∧ flagsKept [] s t ∧
    memoryKept s t ∧ accounted .nop 0 s t

/-- R241 for BRK, with the pushed address of the spec's decision D8 (log entry 15): BRK's address plus 2 and the status with
bit 4 set (bit 5 by the fetch) are pushed, I is set, `PC` comes from the vector at 0xFFFE. -/
def Obligations.BrkEntersTheIrqVector : Prop :=
  encode .brk = [0x00] ∧ ∀ s, ∃ t, exec .brk s = .next t ∧ frameAt s.sp (s.pc + 2) (s.p ||| 0x30) s t ∧
    t.flag .i = true ∧ flagsKept [.i] s t ∧ lo t.pc = s.read 0xFFFE ∧ hi t.pc = s.read 0xFFFF ∧
    t.a = s.a ∧ t.x = s.x ∧ t.y = s.y ∧ accounted .brk 0 s t

/-- 46_flags_system, RTI, with the spec's decision D6 on bits 4 and 5 (log entry 17): the status, then the address, are pulled;
no 1 is added. -/
def Obligations.RtiRestoresStatusAndPc : Prop :=
  encode .rti = [0x40] ∧ ∀ s, ∃ t, exec .rti s = .next t ∧ t.p = (s.read (stackAddr (s.sp + 1)) ||| 0x20) ∧
    lo t.pc = s.read (stackAddr (s.sp + 2)) ∧ hi t.pc = s.read (stackAddr (s.sp + 3)) ∧ t.sp = s.sp + 3 ∧
    t.a = s.a ∧ t.x = s.x ∧ t.y = s.y ∧ memoryKept s t ∧ accounted .rti 0 s t

/-- 60_exceptions R249: after BRK, a handler that keeps `SP` and the frame and ends with RTI goes on at BRK's address plus 2
with `SP` and every flag but B and U restored, B becoming 1 (decisions D6, D8; log entries 15, 17). -/
def Obligations.BrkThenRtiResumes : Prop :=
  ∀ s t u v : State, exec .brk s = .next t → u.sp = t.sp →
    (∀ k : Byte, k = s.sp ∨ k = s.sp - 1 ∨ k = s.sp - 2 → u.read (stackAddr k) = t.read (stackAddr k)) →
    exec .rti u = .next v →
    v.pc = s.pc + 2 ∧ v.sp = s.sp ∧ v.flag .b = true ∧ v.flag .u = true ∧
    (∀ f, f ≠ .b → f ≠ .u → v.flag f = s.flag f)

/-- 60_exceptions section 2: `irq()` and `nmi()` push `PC` and the live `P`, set I and load `PC` from their vectors, whatever I
is; only under the parameter `IRQ_RESPECTS_I`, decided false, does an `irq()` with I set change nothing (decisions D12, D13; log
entries 16, 17). -/
def Obligations.InterruptsEnterThroughTheirVectors : Prop :=
  eventLeads .irq (fun s => s.params.irqRespectsI = false ∨ s.flag .i = false) (fun s t => frameAt s.sp s.pc s.p s t ∧ t.flag .i = true ∧
    (∀ f, f ≠ .i → t.flag f = s.flag f) ∧ lo t.pc = s.read 0xFFFE ∧ hi t.pc = s.read 0xFFFF ∧
    t.a = s.a ∧ t.x = s.x ∧ t.y = s.y ∧ t.clockticks = s.clockticks ∧ t.clockgoal = s.clockgoal ∧ t.ctl = s.ctl ∧
    t.host = s.host ∧ t.params = s.params) ∧
  eventLeads .irq (fun s => s.params.irqRespectsI = true ∧ s.flag .i = true) (fun s t => t = s) ∧
  eventLeads .nmi (fun _ => True) (fun s t => frameAt s.sp s.pc s.p s t ∧ t.flag .i = true ∧
    (∀ f, f ≠ .i → t.flag f = s.flag f) ∧ lo t.pc = s.read 0xFFFA ∧ hi t.pc = s.read 0xFFFB ∧
    t.a = s.a ∧ t.x = s.x ∧ t.y = s.y ∧ t.clockticks = s.clockticks ∧ t.clockgoal = s.clockgoal ∧ t.ctl = s.ctl ∧
    t.host = s.host ∧ t.params = s.params)

/-- 47_undefined_opcodes: an undefined opcode is a no-op of the length of the mode it was decoded in (decision D9; that mode is
the parameter `UNDEF_DESC`'s, log entry 13). -/
def Obligations.UndefinedOpcodesAreNoOps : Prop :=
  ∀ (op : Byte) (o : Operand), op.toNat ∈ undefinedOpcodes → encode (.und op o) = op :: o.bytes ∧
    ∀ s, ∃ t, exec (.und op o) s = .next t ∧ registersKept s t ∧ t.pc = s.pc + BitVec.ofNat 16 o.mode.length ∧
      flagsKept [] s t ∧ memoryKept s t ∧ accounted (.und op o) 0 s t

/-! ## Whole-machine rules -/

/-- R20, R21: `A`, `X`, `Y` and `SP` are written only by the instructions listed for each, the shifts writing `A` only in mode
acc. -/
def Obligations.RegistersHaveOnlyTheirWriters : Prop :=
  ∀ (i : Instr) (s t : State), exec i s = .next t →
    (i.mnemonic ∉ [.lda, .pla, .txa, .tya, .adc, .sbc, .and, .ora, .eor, .asl, .lsr, .rol, .ror] → t.a = s.a) ∧
    (i.mnemonic ∈ [.asl, .lsr, .rol, .ror] → i.operand ≠ .acc → t.a = s.a) ∧
    (i.mnemonic ∉ [.ldx, .tax, .tsx, .inx, .dex] → t.x = s.x) ∧
    (i.mnemonic ∉ [.ldy, .tay, .iny, .dey] → t.y = s.y) ∧
    (i.mnemonic ∉ [.txs, .pha, .php, .pla, .plp, .jsr, .rts, .brk, .rti] → t.sp = s.sp)

/-- R24 to R28, R30, R31: each flag is written only by the instructions its rule lists (PLP and RTI load all of `P`), and the
Constant flag is 1 after every instruction, those two included (R29). -/
def Obligations.FlagsHaveOnlyTheirWriters : Prop :=
  ∀ (i : Instr) (s t : State), exec i s = .next t → t.flag .u = true ∧ (i.mnemonic ∉ [.plp, .rti] →
    (i.mnemonic ∉ [.adc, .sbc, .cmp, .cpx, .cpy, .asl, .lsr, .rol, .ror, .clc, .sec] → t.flag .c = s.flag .c) ∧
    (i.mnemonic ∉ [.sei, .cli, .brk] → t.flag .i = s.flag .i) ∧
    (i.mnemonic ∉ [.sed, .cld] → t.flag .d = s.flag .d) ∧
    t.flag .b = s.flag .b ∧
    (i.mnemonic ∉ [.adc, .sbc, .bit, .clv] → t.flag .v = s.flag .v) ∧
    (i.mnemonic ∈ [.sta, .stx, .sty, .txs, .pha, .php, .jmp, .jsr, .rts, .bcc, .bcs, .beq, .bne, .bmi, .bpl, .bvc, .bvs, .clc, .sec,
      .cli, .sei, .clv, .cld, .sed, .nop, .brk, .und] → t.flag .z = s.flag .z ∧ t.flag .n = s.flag .n))

/-- 20_memory, 41 to 46: only the stores, the read-modify-write instructions and the pushing instructions change memory, and
the shifts do not in mode acc. -/
def Obligations.OnlyStoresAndPushesChangeMemory : Prop :=
  ∀ (i : Instr) (s t : State), exec i s = .next t →
    (i.mnemonic ∉ [.sta, .stx, .sty, .inc, .dec, .asl, .lsr, .rol, .ror, .pha, .php, .jsr, .brk] ∨ i.operand = .acc) →
    memoryKept s t

/-- The property of R305 and R22: an instruction that is no control transfer leaves `PC` at its address plus its length. -/
def Obligations.PcAdvancesByTheLength : Prop :=
  ∀ (i : Instr) (s t : State), exec i s = .next t →
    i.mnemonic ∉ [.jmp, .jsr, .rts, .rti, .bcc, .bcs, .beq, .bne, .bmi, .bpl, .bvc, .bvs, .brk] → t.pc = past i s

/-- R285, R316: no instruction depends on the controller, the host's side or the tick count: with those replaced it does the
same, leaves the first two as they are and adds the same cost to the ticks. -/
def Obligations.ProgramsCannotSeeControllerOrTicks : Prop :=
  ∀ (i : Instr) (s t : State) (c : Controller) (h : HostSide) (n g : Nat), exec i s = .next t →
    ∃ cost, t.clockticks = wrapCount s.params.cntWidth (s.clockticks + cost) ∧
      exec i ((((s.setCtl c).setHost h).setTicks n).setGoal g) =
        .next ((((t.setCtl c).setHost h).setTicks (wrapCount s.params.cntWidth (n + cost))).setGoal g)

/-- 70_reset_and_hazards section 5: the nine penalty-eligible mnemonics; an instruction costs its base cost and at most 2 more
(R310, R312 to R314). `CYCLES` has a row for each high nibble and a column for each low one, and the default is R311's, by class.
The counter's width is the parameter `CNT_WIDTH`: with none the ticks are unbounded (decision D18); that they wrap with a width is
the model's choice, and so is the cost 0 of an opcode a given table does not reach (log entry 18). -/
def Obligations.EveryInstructionCostsTicks : Prop :=
  (∀ m : Mnemonic, eligible m = true ↔ m ∈ [.adc, .and, .cmp, .eor, .lda, .ldx, .ldy, .ora, .sbc]) ∧
  (∀ (i : Instr) (s t : State), exec i s = .next t → ∃ extra, extra ≤ 2 ∧
    t.clockticks = wrapCount s.params.cntWidth (s.clockticks + cycles s.params.cycles i.opcode + extra)) ∧
  (∀ (table : List (List Nat)) (op : Byte) (row : List Nat), table[op.toNat / 16]? = some row →
    (∀ c, row[op.toNat % 16]? = some c → cycles table op = c) ∧ (row.length ≤ op.toNat % 16 → cycles table op = 0)) ∧
  (∀ (table : List (List Nat)) (op : Byte), table.length ≤ op.toNat / 16 → cycles table op = 0) ∧
  (∀ op : Byte, ∃ k ∈ baseCosts, (descriptor defaultUndefDesc op).1 ∈ k.1 ∧
    ((descriptor defaultUndefDesc op).2, cycles defaultCycles op) ∈ k.2) ∧
  (∀ op : Byte, 1 ≤ cycles defaultCycles op) ∧
  ∀ n : Nat, wrapCount none n = n ∧ ∀ w : Nat, wrapCount (some w) n = n % 2 ^ w

/-- R306 with decision D17: `execute(budget)` raises the goal by the budget and then takes core steps, each while the ticks are
below the goal, until they are not, whatever the controller does (R283). With unbounded counters and every base cost at least 1
it always ends, after at most the difference of goal and ticks; the step that issues it and the one that ends the loop are the
model's own (log entry 18). -/
def Obligations.ExecuteReachesItsGoal : Prop :=
  (∀ budget, eventLeads (.execute budget) (fun _ => True) (fun s t =>
    t = { s with
      clockgoal := wrapCount s.params.cntWidth (s.clockgoal + budget),
      host := { s.host with pending := .executing :: s.host.pending } })) ∧
  (∀ (s : State) (rest : List Event), s.host.pending = .executing :: rest →
    (s.clockticks < s.clockgoal → step s = cpuStep s) ∧
    (s.clockgoal ≤ s.clockticks → step s = .next { s with host := { s.host with pending := rest } })) ∧
  (∀ (budget : Nat) (s : State) (rest : List Event), s.host.pending = .execute budget :: rest → s.params.cntWidth = none →
    (∀ op : Byte, 1 ≤ cycles s.params.cycles op) →
    ∃ (n : Nat) (t : State),
      coreSteps n { s with clockgoal := s.clockgoal + budget, host := { s.host with pending := rest } } t ∧
      t.clockgoal = s.clockgoal + budget ∧ t.clockgoal ≤ t.clockticks ∧ n ≤ s.clockgoal + budget - s.clockticks ∧
      t.ctl = s.ctl ∧ t.host = { s.host with pending := rest } ∧ machineSteps (n + 2) s t)

/-! ## Platform bytes and controller -/

/-- 60_exceptions R259, R279: `deliver_key(b)`, enabled while busy is clear, sets busy, then stores the byte, then enters as an
IRQ (the guard is decision D24, log entry 21). With busy set the key stays and the machine goes on (in `Idle` as log entry 24
says). A Continuous iteration that polls a key with busy clear delivers that one key and does parts 2 to 5 of R276 from there,
whatever the delivery leaves in IX: what it does is the step from the delivered state with the other keys and the waiting events
put aside, and those are as before after it. With busy set no key is taken (the list of keys is the model's, log entry 7). Both
hold with nothing pending, while an event waits, and by a proceed event (log entry 6). -/
def Obligations.KeysAreDeliveredOnlyWhenNotBusy : Prop :=
  (∀ b, eventLeads (.deliverKey b) (fun s => (s.read s.host.platform.ix).getLsbD 1 = false) (fun s t =>
    t = irq ((s.write s.host.platform.ix (s.read s.host.platform.ix ||| 0x02)).write s.host.platform.uartIn b))) ∧
  (∀ (b : Byte) (s : State) (rest : List Event), s.host.pending = .deliverKey b :: rest →
    (s.read s.host.platform.ix).getLsbD 1 = true → step s = proceed s) ∧
  (∀ (b : Byte) (p s u t : State) (rest : List Byte), goesOnFrom p s → s.ctl.ctrl = .continuous → s.ctl.cancel = false →
    s.host.keys = b :: rest → busy s = false → u = deliverKey b (s.setHost { s.host with keys := [], pending := [] }) →
    step u = .next t → step p = .next (t.setHost { t.host with keys := rest, pending := s.host.pending })) ∧
  (∀ p s t : State, goesOnFrom p s → s.ctl.ctrl = .continuous → busy s = true → step p = .next t →
    t.host.keys = s.host.keys)

/-- R260 as an event (log entries 6, 8): with IX bit 0 set, `drain_output()` hands out the byte at the UART-output address and
clears that bit; else it hands out nothing. No CPU register changes. -/
def Obligations.DrainOutputTakesTheWaitingByte : Prop :=
  eventLeads .drainOutput (fun s => (s.read s.host.platform.ix).getLsbD 0 = true) (fun s t =>
    onlyByte s.host.platform.ix (s.read s.host.platform.ix &&& 0xFE) s t ∧ cpuKept s t ∧ t.ctl = s.ctl ∧
    t.host = { s.host with outputs := s.host.outputs ++ [.drained (some (s.read s.host.platform.uartOut))] }) ∧
  eventLeads .drainOutput (fun s => (s.read s.host.platform.ix).getLsbD 0 = false) (fun s t =>
    t = { s with host := { s.host with outputs := s.host.outputs ++ [.drained none] } })

/-- 60_exceptions R273 (its wrap is decision D21): `Hit` is the first active entry, in table order, whose address is one of
the bytes of the instruction at `PC`; none if there is none. -/
def Obligations.HitIsTheFirstContainingBreakpoint : Prop :=
  ∀ s : State,
    (hit s = none ↔ ∀ e ∈ s.ctl.bps, ¬ covers s e) ∧
    (∀ (n : Nat) (e : Breakpoint), hit s = some (n, e) ↔
      s.ctl.bps[n]? = some e ∧ covers s e ∧ ∀ (j : Nat) (e' : Breakpoint), j < n → s.ctl.bps[j]? = some e' → ¬ covers s e')

/-- 60_exceptions R270 to R272, R274, R275 (decisions D20, D32): the controller's commands. In `Idle` an active entry is appended
(to a table with a slot left, log entry 20); removal clears `active` in every entry of the address and in no other, and keeps
every place; a run starts with its count, or with the cancel flag cleared; a count of 0 is reported at once. Outside `Idle` a
command is not accepted: it stays, and the controller performs an iteration. -/
def Obligations.CommandsInIdleEditTheController : Prop :=
  (∀ a, eventLeads (.addBp a)
    (fun s => s.ctl.ctrl = .idle ∧ ∀ n, s.params.bpCapacity = some n → s.ctl.bps.length < n) (fun s t =>
    t = { s with ctl := { s.ctl with bps := s.ctl.bps ++ [⟨a, true⟩] } })) ∧
  (∀ a n, eventLeads (.addBp a) (fun s => s.ctl.ctrl = .idle ∧ s.params.bpCapacity = some n ∧ n ≤ s.ctl.bps.length)
    (fun s t => t = s)) ∧
  (∀ a, eventLeads (.removeBp a) (fun s => s.ctl.ctrl = .idle) (fun s t =>
    t = { s with ctl := { s.ctl with bps := t.ctl.bps } } ∧ t.ctl.bps.length = s.ctl.bps.length ∧
    ∀ (k : Nat) (e : Breakpoint), s.ctl.bps[k]? = some e →
      t.ctl.bps[k]? = some (if e.address = a then ⟨e.address, false⟩ else e))) ∧
  (∀ n, eventLeads (.stepCmd n) (fun s => s.ctl.ctrl = .idle ∧ n ≠ 0) (fun s t =>
    t = { s with ctl := { s.ctl with ctrl := .steppingN, remaining := n } })) ∧
  eventLeads (.stepCmd 0) (fun s => s.ctl.ctrl = .idle) (fun s t =>
    t = { s with host := { s.host with outputs := s.host.outputs ++ [.report .stepDone] } }) ∧
  eventLeads .continueCmd (fun s => s.ctl.ctrl = .idle) (fun s t =>
    t = { s with ctl := { s.ctl with ctrl := .continuous, cancel := false } }) ∧
  (∀ (s : State) (e : Event) (rest : List Event), s.host.pending = e :: rest → isCommand e → s.ctl.ctrl ≠ .idle →
    step s = iterate s)

/-- R276 parts 1 and 2, R278: in a run, the cancel flag (in Continuous, before anything else) and a breakpoint (unless `at_bp`
skips the test) end the run with one report before any instruction: CPU and memory are as before, `remaining` is 0. The
breakpoint part is for an iteration that delivers no key: SteppingN, or Continuous with none offered or busy set (R279). The CPU is
then stopped (R270): a host's own stepping ends with the run (log entry 24). It is so with nothing pending, while an event waits,
and by a proceed event (log entry 6). -/
def Obligations.CancelAndBreakpointsHaltBeforeExecuting : Prop :=
  (∀ p s : State, goesOnFrom p s → s.ctl.ctrl = .continuous → s.ctl.cancel = true →
    step p = .next { s with
      ctl := { s.ctl with ctrl := .idle, remaining := 0 },
      host := { s.host with outputs := s.host.outputs ++ [.report .interrupted], stepping := false } }) ∧
  (∀ (p s : State) (n : Nat) (e : Breakpoint), goesOnFrom p s → s.ctl.ctrl ≠ .idle →
    (s.ctl.ctrl = .continuous → s.ctl.cancel = false ∧ (s.host.keys = [] ∨ busy s = true)) → s.ctl.atBp = false → hit s = some (n, e) →
    step p = .next { s with
      ctl := { s.ctl with ctrl := .idle, remaining := 0, atBp := true },
      host := { s.host with outputs := s.host.outputs ++ [.report (.breakpointHit n e)], stepping := false } })

/-- R276 parts 4 and 5, R277 (exit before return is decision D31): after an instruction of a run, IX bit 7 ends it with
ProgramExited, else bit 6 with ReturnToDebugger, else in SteppingN the count falls and ends it at 0. CPU and memory are not
changed, and a host's own stepping ends with the run (log entry 24). -/
def Obligations.IxBitsAndCountEndARun : Prop :=
  ∀ s : State, cpuKept s (afterStep s) ∧ memoryKept s (afterStep s) ∧
    ((s.read s.host.platform.ix).getLsbD 7 = true → (afterStep s).ctl = { s.ctl with ctrl := .idle, remaining := 0 } ∧
      (afterStep s).host = { s.host with outputs := s.host.outputs ++ [.report .programExited], stepping := false }) ∧
    ((s.read s.host.platform.ix).getLsbD 7 = false → (s.read s.host.platform.ix).getLsbD 6 = true →
      (afterStep s).ctl = { s.ctl with ctrl := .idle, remaining := 0 } ∧
      (afterStep s).host = { s.host with outputs := s.host.outputs ++ [.report .returnToDebugger], stepping := false }) ∧
    ((s.read s.host.platform.ix).getLsbD 7 = false → (s.read s.host.platform.ix).getLsbD 6 = false →
      (s.ctl.ctrl = .steppingN → s.ctl.remaining = 1 → (afterStep s).ctl = { s.ctl with ctrl := .idle, remaining := 0 } ∧
        (afterStep s).host = { s.host with outputs := s.host.outputs ++ [.report .stepDone], stepping := false }) ∧
      (s.ctl.ctrl = .steppingN → 1 < s.ctl.remaining →
        (afterStep s).ctl = { s.ctl with remaining := s.ctl.remaining - 1 } ∧ (afterStep s).host = s.host) ∧
      (s.ctl.ctrl = .continuous → afterStep s = s))
end

