-- ==== Sys2Proof/Laws/State.lean ====
section
/-! SUPPORT. One lemma per field per named update of State, and how the read of a byte and of a flag passes an update. -/

namespace Sys2Proof.Machine

variable (s : State)

@[simp] theorem State.setA_a (v : Byte) : (s.setA v).a = v := rfl
@[simp] theorem State.setA_x (v : Byte) : (s.setA v).x = s.x := rfl
@[simp] theorem State.setA_y (v : Byte) : (s.setA v).y = s.y := rfl
@[simp] theorem State.setA_sp (v : Byte) : (s.setA v).sp = s.sp := rfl
@[simp] theorem State.setA_pc (v : Byte) : (s.setA v).pc = s.pc := rfl
@[simp] theorem State.setA_p (v : Byte) : (s.setA v).p = s.p := rfl
@[simp] theorem State.setA_clockticks (v : Byte) : (s.setA v).clockticks = s.clockticks := rfl
@[simp] theorem State.setA_clockgoal (v : Byte) : (s.setA v).clockgoal = s.clockgoal := rfl
@[simp] theorem State.setA_mem (v : Byte) : (s.setA v).mem = s.mem := rfl
@[simp] theorem State.setA_ctl (v : Byte) : (s.setA v).ctl = s.ctl := rfl
@[simp] theorem State.setA_host (v : Byte) : (s.setA v).host = s.host := rfl
@[simp] theorem State.setA_params (v : Byte) : (s.setA v).params = s.params := rfl
@[simp] theorem State.setA_read (v : Byte) (b : Addr) : (s.setA v).read b = s.read b := rfl
@[simp] theorem State.setA_flag (v : Byte) (g : Flag) : (s.setA v).flag g = s.flag g := rfl

@[simp] theorem State.setX_a (v : Byte) : (s.setX v).a = s.a := rfl
@[simp] theorem State.setX_x (v : Byte) : (s.setX v).x = v := rfl
@[simp] theorem State.setX_y (v : Byte) : (s.setX v).y = s.y := rfl
@[simp] theorem State.setX_sp (v : Byte) : (s.setX v).sp = s.sp := rfl
@[simp] theorem State.setX_pc (v : Byte) : (s.setX v).pc = s.pc := rfl
@[simp] theorem State.setX_p (v : Byte) : (s.setX v).p = s.p := rfl
@[simp] theorem State.setX_clockticks (v : Byte) : (s.setX v).clockticks = s.clockticks := rfl
@[simp] theorem State.setX_clockgoal (v : Byte) : (s.setX v).clockgoal = s.clockgoal := rfl
@[simp] theorem State.setX_mem (v : Byte) : (s.setX v).mem = s.mem := rfl
@[simp] theorem State.setX_ctl (v : Byte) : (s.setX v).ctl = s.ctl := rfl
@[simp] theorem State.setX_host (v : Byte) : (s.setX v).host = s.host := rfl
@[simp] theorem State.setX_params (v : Byte) : (s.setX v).params = s.params := rfl
@[simp] theorem State.setX_read (v : Byte) (b : Addr) : (s.setX v).read b = s.read b := rfl
@[simp] theorem State.setX_flag (v : Byte) (g : Flag) : (s.setX v).flag g = s.flag g := rfl

@[simp] theorem State.setY_a (v : Byte) : (s.setY v).a = s.a := rfl
@[simp] theorem State.setY_x (v : Byte) : (s.setY v).x = s.x := rfl
@[simp] theorem State.setY_y (v : Byte) : (s.setY v).y = v := rfl
@[simp] theorem State.setY_sp (v : Byte) : (s.setY v).sp = s.sp := rfl
@[simp] theorem State.setY_pc (v : Byte) : (s.setY v).pc = s.pc := rfl
@[simp] theorem State.setY_p (v : Byte) : (s.setY v).p = s.p := rfl
@[simp] theorem State.setY_clockticks (v : Byte) : (s.setY v).clockticks = s.clockticks := rfl
@[simp] theorem State.setY_clockgoal (v : Byte) : (s.setY v).clockgoal = s.clockgoal := rfl
@[simp] theorem State.setY_mem (v : Byte) : (s.setY v).mem = s.mem := rfl
@[simp] theorem State.setY_ctl (v : Byte) : (s.setY v).ctl = s.ctl := rfl
@[simp] theorem State.setY_host (v : Byte) : (s.setY v).host = s.host := rfl
@[simp] theorem State.setY_params (v : Byte) : (s.setY v).params = s.params := rfl
@[simp] theorem State.setY_read (v : Byte) (b : Addr) : (s.setY v).read b = s.read b := rfl
@[simp] theorem State.setY_flag (v : Byte) (g : Flag) : (s.setY v).flag g = s.flag g := rfl

@[simp] theorem State.setSp_a (v : Byte) : (s.setSp v).a = s.a := rfl
@[simp] theorem State.setSp_x (v : Byte) : (s.setSp v).x = s.x := rfl
@[simp] theorem State.setSp_y (v : Byte) : (s.setSp v).y = s.y := rfl
@[simp] theorem State.setSp_sp (v : Byte) : (s.setSp v).sp = v := rfl
@[simp] theorem State.setSp_pc (v : Byte) : (s.setSp v).pc = s.pc := rfl
@[simp] theorem State.setSp_p (v : Byte) : (s.setSp v).p = s.p := rfl
@[simp] theorem State.setSp_clockticks (v : Byte) : (s.setSp v).clockticks = s.clockticks := rfl
@[simp] theorem State.setSp_clockgoal (v : Byte) : (s.setSp v).clockgoal = s.clockgoal := rfl
@[simp] theorem State.setSp_mem (v : Byte) : (s.setSp v).mem = s.mem := rfl
@[simp] theorem State.setSp_ctl (v : Byte) : (s.setSp v).ctl = s.ctl := rfl
@[simp] theorem State.setSp_host (v : Byte) : (s.setSp v).host = s.host := rfl
@[simp] theorem State.setSp_params (v : Byte) : (s.setSp v).params = s.params := rfl
@[simp] theorem State.setSp_read (v : Byte) (b : Addr) : (s.setSp v).read b = s.read b := rfl
@[simp] theorem State.setSp_flag (v : Byte) (g : Flag) : (s.setSp v).flag g = s.flag g := rfl

@[simp] theorem State.setPc_a (v : Addr) : (s.setPc v).a = s.a := rfl
@[simp] theorem State.setPc_x (v : Addr) : (s.setPc v).x = s.x := rfl
@[simp] theorem State.setPc_y (v : Addr) : (s.setPc v).y = s.y := rfl
@[simp] theorem State.setPc_sp (v : Addr) : (s.setPc v).sp = s.sp := rfl
@[simp] theorem State.setPc_pc (v : Addr) : (s.setPc v).pc = v := rfl
@[simp] theorem State.setPc_p (v : Addr) : (s.setPc v).p = s.p := rfl
@[simp] theorem State.setPc_clockticks (v : Addr) : (s.setPc v).clockticks = s.clockticks := rfl
@[simp] theorem State.setPc_clockgoal (v : Addr) : (s.setPc v).clockgoal = s.clockgoal := rfl
@[simp] theorem State.setPc_mem (v : Addr) : (s.setPc v).mem = s.mem := rfl
@[simp] theorem State.setPc_ctl (v : Addr) : (s.setPc v).ctl = s.ctl := rfl
@[simp] theorem State.setPc_host (v : Addr) : (s.setPc v).host = s.host := rfl
@[simp] theorem State.setPc_params (v : Addr) : (s.setPc v).params = s.params := rfl
@[simp] theorem State.setPc_read (v : Addr) (b : Addr) : (s.setPc v).read b = s.read b := rfl
@[simp] theorem State.setPc_flag (v : Addr) (g : Flag) : (s.setPc v).flag g = s.flag g := rfl

@[simp] theorem State.setP_a (v : Byte) : (s.setP v).a = s.a := rfl
@[simp] theorem State.setP_x (v : Byte) : (s.setP v).x = s.x := rfl
@[simp] theorem State.setP_y (v : Byte) : (s.setP v).y = s.y := rfl
@[simp] theorem State.setP_sp (v : Byte) : (s.setP v).sp = s.sp := rfl
@[simp] theorem State.setP_pc (v : Byte) : (s.setP v).pc = s.pc := rfl
@[simp] theorem State.setP_p (v : Byte) : (s.setP v).p = v := rfl
@[simp] theorem State.setP_clockticks (v : Byte) : (s.setP v).clockticks = s.clockticks := rfl
@[simp] theorem State.setP_clockgoal (v : Byte) : (s.setP v).clockgoal = s.clockgoal := rfl
@[simp] theorem State.setP_mem (v : Byte) : (s.setP v).mem = s.mem := rfl
@[simp] theorem State.setP_ctl (v : Byte) : (s.setP v).ctl = s.ctl := rfl
@[simp] theorem State.setP_host (v : Byte) : (s.setP v).host = s.host := rfl
@[simp] theorem State.setP_params (v : Byte) : (s.setP v).params = s.params := rfl
@[simp] theorem State.setP_read (v : Byte) (b : Addr) : (s.setP v).read b = s.read b := rfl

@[simp] theorem State.setTicks_a (v : Nat) : (s.setTicks v).a = s.a := rfl
@[simp] theorem State.setTicks_x (v : Nat) : (s.setTicks v).x = s.x := rfl
@[simp] theorem State.setTicks_y (v : Nat) : (s.setTicks v).y = s.y := rfl
@[simp] theorem State.setTicks_sp (v : Nat) : (s.setTicks v).sp = s.sp := rfl
@[simp] theorem State.setTicks_pc (v : Nat) : (s.setTicks v).pc = s.pc := rfl
@[simp] theorem State.setTicks_p (v : Nat) : (s.setTicks v).p = s.p := rfl
@[simp] theorem State.setTicks_clockticks (v : Nat) : (s.setTicks v).clockticks = v := rfl
@[simp] theorem State.setTicks_clockgoal (v : Nat) : (s.setTicks v).clockgoal = s.clockgoal := rfl
@[simp] theorem State.setTicks_mem (v : Nat) : (s.setTicks v).mem = s.mem := rfl
@[simp] theorem State.setTicks_ctl (v : Nat) : (s.setTicks v).ctl = s.ctl := rfl
@[simp] theorem State.setTicks_host (v : Nat) : (s.setTicks v).host = s.host := rfl
@[simp] theorem State.setTicks_params (v : Nat) : (s.setTicks v).params = s.params := rfl
@[simp] theorem State.setTicks_read (v : Nat) (b : Addr) : (s.setTicks v).read b = s.read b := rfl
@[simp] theorem State.setTicks_flag (v : Nat) (g : Flag) : (s.setTicks v).flag g = s.flag g := rfl

@[simp] theorem State.setGoal_a (v : Nat) : (s.setGoal v).a = s.a := rfl
@[simp] theorem State.setGoal_x (v : Nat) : (s.setGoal v).x = s.x := rfl
@[simp] theorem State.setGoal_y (v : Nat) : (s.setGoal v).y = s.y := rfl
@[simp] theorem State.setGoal_sp (v : Nat) : (s.setGoal v).sp = s.sp := rfl
@[simp] theorem State.setGoal_pc (v : Nat) : (s.setGoal v).pc = s.pc := rfl
@[simp] theorem State.setGoal_p (v : Nat) : (s.setGoal v).p = s.p := rfl
@[simp] theorem State.setGoal_clockticks (v : Nat) : (s.setGoal v).clockticks = s.clockticks := rfl
@[simp] theorem State.setGoal_clockgoal (v : Nat) : (s.setGoal v).clockgoal = v := rfl
@[simp] theorem State.setGoal_mem (v : Nat) : (s.setGoal v).mem = s.mem := rfl
@[simp] theorem State.setGoal_ctl (v : Nat) : (s.setGoal v).ctl = s.ctl := rfl
@[simp] theorem State.setGoal_host (v : Nat) : (s.setGoal v).host = s.host := rfl
@[simp] theorem State.setGoal_params (v : Nat) : (s.setGoal v).params = s.params := rfl
@[simp] theorem State.setGoal_read (v : Nat) (b : Addr) : (s.setGoal v).read b = s.read b := rfl
@[simp] theorem State.setGoal_flag (v : Nat) (g : Flag) : (s.setGoal v).flag g = s.flag g := rfl

@[simp] theorem State.setMem_a (v : List Host.Cell) : (s.setMem v).a = s.a := rfl
@[simp] theorem State.setMem_x (v : List Host.Cell) : (s.setMem v).x = s.x := rfl
@[simp] theorem State.setMem_y (v : List Host.Cell) : (s.setMem v).y = s.y := rfl
@[simp] theorem State.setMem_sp (v : List Host.Cell) : (s.setMem v).sp = s.sp := rfl
@[simp] theorem State.setMem_pc (v : List Host.Cell) : (s.setMem v).pc = s.pc := rfl
@[simp] theorem State.setMem_p (v : List Host.Cell) : (s.setMem v).p = s.p := rfl
@[simp] theorem State.setMem_clockticks (v : List Host.Cell) : (s.setMem v).clockticks = s.clockticks := rfl
@[simp] theorem State.setMem_clockgoal (v : List Host.Cell) : (s.setMem v).clockgoal = s.clockgoal := rfl
@[simp] theorem State.setMem_mem (v : List Host.Cell) : (s.setMem v).mem = v := rfl
@[simp] theorem State.setMem_ctl (v : List Host.Cell) : (s.setMem v).ctl = s.ctl := rfl
@[simp] theorem State.setMem_host (v : List Host.Cell) : (s.setMem v).host = s.host := rfl
@[simp] theorem State.setMem_params (v : List Host.Cell) : (s.setMem v).params = s.params := rfl
@[simp] theorem State.setMem_flag (v : List Host.Cell) (g : Flag) : (s.setMem v).flag g = s.flag g := rfl

@[simp] theorem State.setCtl_a (v : Controller) : (s.setCtl v).a = s.a := rfl
@[simp] theorem State.setCtl_x (v : Controller) : (s.setCtl v).x = s.x := rfl
@[simp] theorem State.setCtl_y (v : Controller) : (s.setCtl v).y = s.y := rfl
@[simp] theorem State.setCtl_sp (v : Controller) : (s.setCtl v).sp = s.sp := rfl
@[simp] theorem State.setCtl_pc (v : Controller) : (s.setCtl v).pc = s.pc := rfl
@[simp] theorem State.setCtl_p (v : Controller) : (s.setCtl v).p = s.p := rfl
@[simp] theorem State.setCtl_clockticks (v : Controller) : (s.setCtl v).clockticks = s.clockticks := rfl
@[simp] theorem State.setCtl_clockgoal (v : Controller) : (s.setCtl v).clockgoal = s.clockgoal := rfl
@[simp] theorem State.setCtl_mem (v : Controller) : (s.setCtl v).mem = s.mem := rfl
@[simp] theorem State.setCtl_ctl (v : Controller) : (s.setCtl v).ctl = v := rfl
@[simp] theorem State.setCtl_host (v : Controller) : (s.setCtl v).host = s.host := rfl
@[simp] theorem State.setCtl_params (v : Controller) : (s.setCtl v).params = s.params := rfl
@[simp] theorem State.setCtl_read (v : Controller) (b : Addr) : (s.setCtl v).read b = s.read b := rfl
@[simp] theorem State.setCtl_flag (v : Controller) (g : Flag) : (s.setCtl v).flag g = s.flag g := rfl

@[simp] theorem State.setHost_a (v : HostSide) : (s.setHost v).a = s.a := rfl
@[simp] theorem State.setHost_x (v : HostSide) : (s.setHost v).x = s.x := rfl
@[simp] theorem State.setHost_y (v : HostSide) : (s.setHost v).y = s.y := rfl
@[simp] theorem State.setHost_sp (v : HostSide) : (s.setHost v).sp = s.sp := rfl
@[simp] theorem State.setHost_pc (v : HostSide) : (s.setHost v).pc = s.pc := rfl
@[simp] theorem State.setHost_p (v : HostSide) : (s.setHost v).p = s.p := rfl
@[simp] theorem State.setHost_clockticks (v : HostSide) : (s.setHost v).clockticks = s.clockticks := rfl
@[simp] theorem State.setHost_clockgoal (v : HostSide) : (s.setHost v).clockgoal = s.clockgoal := rfl
@[simp] theorem State.setHost_mem (v : HostSide) : (s.setHost v).mem = s.mem := rfl
@[simp] theorem State.setHost_ctl (v : HostSide) : (s.setHost v).ctl = s.ctl := rfl
@[simp] theorem State.setHost_host (v : HostSide) : (s.setHost v).host = v := rfl
@[simp] theorem State.setHost_params (v : HostSide) : (s.setHost v).params = s.params := rfl
@[simp] theorem State.setHost_read (v : HostSide) (b : Addr) : (s.setHost v).read b = s.read b := rfl
@[simp] theorem State.setHost_flag (v : HostSide) (g : Flag) : (s.setHost v).flag g = s.flag g := rfl

end Sys2Proof.Machine
end

