-- ==== Sys2Proof/Laws/Memory.lean ====
section
/-! SUPPORT. The laws of memory (20_memory R51): a read after a write, and that every memory operation keeps the canonical
form. The laws of reading hold for every list, canonical or not. -/

namespace Sys2Proof.Machine

/-- What is written after a write: the byte at its address, every other address as before. -/
theorem Memory.lookup_write (m : List Host.Cell) (a b : Nat) (v : Byte) :
    Memory.lookup (Memory.write m a v) b = if b = a then some v else Memory.lookup m b := by
  induction m with
  | nil => simp [Memory.write, Memory.lookup, eq_comm]
  | cons c rest ih =>
    obtain ⟨k, w⟩ := c
    simp only [Memory.write]
    split
    · simp [Memory.lookup, eq_comm]
    · split
      · next hk =>
        subst hk
        by_cases hb : b = k
        · simp [Memory.lookup, hb]
        · simp [Memory.lookup, hb, Ne.symm hb]
      · next hk =>
        by_cases hb : k = b
        · simp [Memory.lookup, ← hb, hk]
        · simp [Memory.lookup, hb, ih]

theorem Memory.wfFrom_cons {l k : Nat} {v : Byte} {rest : List Host.Cell} :
    Memory.wfFrom l ((k, v) :: rest) = true ↔ l ≤ k ∧ k < 65536 ∧ Memory.wfFrom (k + 1) rest = true := by
  simp [Memory.wfFrom, and_assoc]

theorem Memory.wfFrom_write {l a : Nat} {m : List Host.Cell} (v : Byte) (hl : l ≤ a) (ha : a < 65536)
    (hm : Memory.wfFrom l m = true) : Memory.wfFrom l (Memory.write m a v) = true := by
  induction m generalizing l with
  | nil => exact Memory.wfFrom_cons.2 ⟨hl, ha, rfl⟩
  | cons c rest ih =>
    obtain ⟨k, w⟩ := c
    obtain ⟨h1, h2, h3⟩ := Memory.wfFrom_cons.1 hm
    simp only [Memory.write]
    split
    · exact Memory.wfFrom_cons.2 ⟨hl, ha, Memory.wfFrom_cons.2 ⟨by omega, h2, h3⟩⟩
    · split
      · next hk => exact Memory.wfFrom_cons.2 ⟨hl, ha, hk ▸ h3⟩
      · exact Memory.wfFrom_cons.2 ⟨h1, h2, ih (by omega) h3⟩

/-- A write to an address of the address space keeps the canonical form. -/
theorem Memory.wf_write {m : List Host.Cell} {a : Nat} (v : Byte) (ha : a < 65536) (hm : Memory.wf m = true) :
    Memory.wf (Memory.write m a v) = true :=
  Memory.wfFrom_write v (Nat.zero_le _) ha hm

/-- Read after write at the machine's level (R51). -/
@[simp] theorem State.read_write (s : State) (a b : Addr) (v : Byte) :
    (s.write a v).read b = if b = a then v else s.read b := by
  simp only [State.write, State.read, State.setMem_mem, Memory.lookup_write, BitVec.toNat_inj]
  split <;> rfl

/-- A byte nothing has written reads as its free value (R39; log entry 1). -/
theorem State.read_unwritten {s : State} {a : Addr} (h : Memory.lookup s.mem a.toNat = none) :
    s.read a = Config.unwrittenByte a := by
  simp [State.read, h]

theorem State.write_wf {s : State} (a : Addr) (v : Byte) (h : Memory.wf s.mem = true) :
    Memory.wf (s.write a v).mem = true :=
  Memory.wf_write v a.isLt h

theorem State.reset_memory_wf : Memory.wf State.reset.mem = true := rfl

end Sys2Proof.Machine
end

