-- ==== Sys2Proof/Laws/Ops.lean ====
section
/-! SUPPORT. What each shared operation over registers, memory, stack and flags leaves alone, and what it does. -/

namespace Sys2Proof.Machine

variable (s : State)

@[simp] theorem State.setFlag_a (f : Flag) (v : Bool) : (s.setFlag f v).a = s.a := rfl
@[simp] theorem State.setFlag_x (f : Flag) (v : Bool) : (s.setFlag f v).x = s.x := rfl
@[simp] theorem State.setFlag_y (f : Flag) (v : Bool) : (s.setFlag f v).y = s.y := rfl
@[simp] theorem State.setFlag_sp (f : Flag) (v : Bool) : (s.setFlag f v).sp = s.sp := rfl
@[simp] theorem State.setFlag_pc (f : Flag) (v : Bool) : (s.setFlag f v).pc = s.pc := rfl
@[simp] theorem State.setFlag_clockticks (f : Flag) (v : Bool) : (s.setFlag f v).clockticks = s.clockticks := rfl
@[simp] theorem State.setFlag_clockgoal (f : Flag) (v : Bool) : (s.setFlag f v).clockgoal = s.clockgoal := rfl
@[simp] theorem State.setFlag_mem (f : Flag) (v : Bool) : (s.setFlag f v).mem = s.mem := rfl
@[simp] theorem State.setFlag_ctl (f : Flag) (v : Bool) : (s.setFlag f v).ctl = s.ctl := rfl
@[simp] theorem State.setFlag_host (f : Flag) (v : Bool) : (s.setFlag f v).host = s.host := rfl
@[simp] theorem State.setFlag_params (f : Flag) (v : Bool) : (s.setFlag f v).params = s.params := rfl
@[simp] theorem State.setFlag_read (f : Flag) (v : Bool) (q : Addr) : (s.setFlag f v).read q = s.read q := rfl

@[simp] theorem State.write_a (b : Addr) (v : Byte) : (s.write b v).a = s.a := rfl
@[simp] theorem State.write_x (b : Addr) (v : Byte) : (s.write b v).x = s.x := rfl
@[simp] theorem State.write_y (b : Addr) (v : Byte) : (s.write b v).y = s.y := rfl
@[simp] theorem State.write_sp (b : Addr) (v : Byte) : (s.write b v).sp = s.sp := rfl
@[simp] theorem State.write_pc (b : Addr) (v : Byte) : (s.write b v).pc = s.pc := rfl
@[simp] theorem State.write_p (b : Addr) (v : Byte) : (s.write b v).p = s.p := rfl
@[simp] theorem State.write_clockticks (b : Addr) (v : Byte) : (s.write b v).clockticks = s.clockticks := rfl
@[simp] theorem State.write_clockgoal (b : Addr) (v : Byte) : (s.write b v).clockgoal = s.clockgoal := rfl
@[simp] theorem State.write_ctl (b : Addr) (v : Byte) : (s.write b v).ctl = s.ctl := rfl
@[simp] theorem State.write_host (b : Addr) (v : Byte) : (s.write b v).host = s.host := rfl
@[simp] theorem State.write_params (b : Addr) (v : Byte) : (s.write b v).params = s.params := rfl
@[simp] theorem State.write_flag (b : Addr) (v : Byte) (g : Flag) : (s.write b v).flag g = s.flag g := rfl

@[simp] theorem push8_a (v : Byte) : (push8 v s).a = s.a := rfl
@[simp] theorem push8_x (v : Byte) : (push8 v s).x = s.x := rfl
@[simp] theorem push8_y (v : Byte) : (push8 v s).y = s.y := rfl
@[simp] theorem push8_pc (v : Byte) : (push8 v s).pc = s.pc := rfl
@[simp] theorem push8_p (v : Byte) : (push8 v s).p = s.p := rfl
@[simp] theorem push8_clockticks (v : Byte) : (push8 v s).clockticks = s.clockticks := rfl
@[simp] theorem push8_clockgoal (v : Byte) : (push8 v s).clockgoal = s.clockgoal := rfl
@[simp] theorem push8_ctl (v : Byte) : (push8 v s).ctl = s.ctl := rfl
@[simp] theorem push8_host (v : Byte) : (push8 v s).host = s.host := rfl
@[simp] theorem push8_params (v : Byte) : (push8 v s).params = s.params := rfl
@[simp] theorem push8_flag (v : Byte) (g : Flag) : (push8 v s).flag g = s.flag g := rfl

@[simp] theorem push16_a (w : Addr) : (push16 w s).a = s.a := by simp [push16]
@[simp] theorem push16_x (w : Addr) : (push16 w s).x = s.x := by simp [push16]
@[simp] theorem push16_y (w : Addr) : (push16 w s).y = s.y := by simp [push16]
@[simp] theorem push16_pc (w : Addr) : (push16 w s).pc = s.pc := by simp [push16]
@[simp] theorem push16_p (w : Addr) : (push16 w s).p = s.p := by simp [push16]
@[simp] theorem push16_clockticks (w : Addr) : (push16 w s).clockticks = s.clockticks := by simp [push16]
@[simp] theorem push16_clockgoal (w : Addr) : (push16 w s).clockgoal = s.clockgoal := by simp [push16]
@[simp] theorem push16_ctl (w : Addr) : (push16 w s).ctl = s.ctl := by simp [push16]
@[simp] theorem push16_host (w : Addr) : (push16 w s).host = s.host := by simp [push16]
@[simp] theorem push16_params (w : Addr) : (push16 w s).params = s.params := by simp [push16]
@[simp] theorem push16_flag (w : Addr) (g : Flag) : (push16 w s).flag g = s.flag g := by simp [push16]

@[simp] theorem fetched_a (n : Nat) : (fetched n s).a = s.a := rfl
@[simp] theorem fetched_x (n : Nat) : (fetched n s).x = s.x := rfl
@[simp] theorem fetched_y (n : Nat) : (fetched n s).y = s.y := rfl
@[simp] theorem fetched_sp (n : Nat) : (fetched n s).sp = s.sp := rfl
@[simp] theorem fetched_clockticks (n : Nat) : (fetched n s).clockticks = s.clockticks := rfl
@[simp] theorem fetched_clockgoal (n : Nat) : (fetched n s).clockgoal = s.clockgoal := rfl
@[simp] theorem fetched_mem (n : Nat) : (fetched n s).mem = s.mem := rfl
@[simp] theorem fetched_ctl (n : Nat) : (fetched n s).ctl = s.ctl := rfl
@[simp] theorem fetched_host (n : Nat) : (fetched n s).host = s.host := rfl
@[simp] theorem fetched_params (n : Nat) : (fetched n s).params = s.params := rfl
@[simp] theorem fetched_read (n : Nat) (q : Addr) : (fetched n s).read q = s.read q := rfl

@[simp] theorem tick_a (n : Nat) : (tick n s).a = s.a := rfl
@[simp] theorem tick_x (n : Nat) : (tick n s).x = s.x := rfl
@[simp] theorem tick_y (n : Nat) : (tick n s).y = s.y := rfl
@[simp] theorem tick_sp (n : Nat) : (tick n s).sp = s.sp := rfl
@[simp] theorem tick_pc (n : Nat) : (tick n s).pc = s.pc := rfl
@[simp] theorem tick_p (n : Nat) : (tick n s).p = s.p := rfl
@[simp] theorem tick_clockgoal (n : Nat) : (tick n s).clockgoal = s.clockgoal := rfl
@[simp] theorem tick_mem (n : Nat) : (tick n s).mem = s.mem := rfl
@[simp] theorem tick_ctl (n : Nat) : (tick n s).ctl = s.ctl := rfl
@[simp] theorem tick_host (n : Nat) : (tick n s).host = s.host := rfl
@[simp] theorem tick_params (n : Nat) : (tick n s).params = s.params := rfl
@[simp] theorem tick_read (n : Nat) (q : Addr) : (tick n s).read q = s.read q := rfl
@[simp] theorem tick_flag (n : Nat) (g : Flag) : (tick n s).flag g = s.flag g := rfl

@[simp] theorem setZN_a (v : Byte) : (setZN v s).a = s.a := rfl
@[simp] theorem setZN_x (v : Byte) : (setZN v s).x = s.x := rfl
@[simp] theorem setZN_y (v : Byte) : (setZN v s).y = s.y := rfl
@[simp] theorem setZN_sp (v : Byte) : (setZN v s).sp = s.sp := rfl
@[simp] theorem setZN_pc (v : Byte) : (setZN v s).pc = s.pc := rfl
@[simp] theorem setZN_clockticks (v : Byte) : (setZN v s).clockticks = s.clockticks := rfl
@[simp] theorem setZN_clockgoal (v : Byte) : (setZN v s).clockgoal = s.clockgoal := rfl
@[simp] theorem setZN_mem (v : Byte) : (setZN v s).mem = s.mem := rfl
@[simp] theorem setZN_ctl (v : Byte) : (setZN v s).ctl = s.ctl := rfl
@[simp] theorem setZN_host (v : Byte) : (setZN v s).host = s.host := rfl
@[simp] theorem setZN_params (v : Byte) : (setZN v s).params = s.params := rfl
@[simp] theorem setZN_read (v : Byte) (q : Addr) : (setZN v s).read q = s.read q := rfl

@[simp] theorem resultFlags_a (a m r : Byte) (c : Bool) : (resultFlags a m r c s).a = s.a := rfl
@[simp] theorem resultFlags_x (a m r : Byte) (c : Bool) : (resultFlags a m r c s).x = s.x := rfl
@[simp] theorem resultFlags_y (a m r : Byte) (c : Bool) : (resultFlags a m r c s).y = s.y := rfl
@[simp] theorem resultFlags_sp (a m r : Byte) (c : Bool) : (resultFlags a m r c s).sp = s.sp := rfl
@[simp] theorem resultFlags_pc (a m r : Byte) (c : Bool) : (resultFlags a m r c s).pc = s.pc := rfl
@[simp] theorem resultFlags_clockticks (a m r : Byte) (c : Bool) : (resultFlags a m r c s).clockticks = s.clockticks := rfl
@[simp] theorem resultFlags_clockgoal (a m r : Byte) (c : Bool) : (resultFlags a m r c s).clockgoal = s.clockgoal := rfl
@[simp] theorem resultFlags_mem (a m r : Byte) (c : Bool) : (resultFlags a m r c s).mem = s.mem := rfl
@[simp] theorem resultFlags_ctl (a m r : Byte) (c : Bool) : (resultFlags a m r c s).ctl = s.ctl := rfl
@[simp] theorem resultFlags_host (a m r : Byte) (c : Bool) : (resultFlags a m r c s).host = s.host := rfl
@[simp] theorem resultFlags_params (a m r : Byte) (c : Bool) : (resultFlags a m r c s).params = s.params := rfl
@[simp] theorem resultFlags_read (a m r : Byte) (c : Bool) (q : Addr) : (resultFlags a m r c s).read q = s.read q := rfl

@[simp] theorem addFlags_a (a m : Byte) (c : Bool) : (addFlags a m c s).a = s.a := by simp [addFlags]
@[simp] theorem addFlags_x (a m : Byte) (c : Bool) : (addFlags a m c s).x = s.x := by simp [addFlags]
@[simp] theorem addFlags_y (a m : Byte) (c : Bool) : (addFlags a m c s).y = s.y := by simp [addFlags]
@[simp] theorem addFlags_sp (a m : Byte) (c : Bool) : (addFlags a m c s).sp = s.sp := by simp [addFlags]
@[simp] theorem addFlags_pc (a m : Byte) (c : Bool) : (addFlags a m c s).pc = s.pc := by simp [addFlags]
@[simp] theorem addFlags_clockticks (a m : Byte) (c : Bool) : (addFlags a m c s).clockticks = s.clockticks := by simp [addFlags]
@[simp] theorem addFlags_clockgoal (a m : Byte) (c : Bool) : (addFlags a m c s).clockgoal = s.clockgoal := by simp [addFlags]
@[simp] theorem addFlags_mem (a m : Byte) (c : Bool) : (addFlags a m c s).mem = s.mem := by simp [addFlags]
@[simp] theorem addFlags_ctl (a m : Byte) (c : Bool) : (addFlags a m c s).ctl = s.ctl := by simp [addFlags]
@[simp] theorem addFlags_host (a m : Byte) (c : Bool) : (addFlags a m c s).host = s.host := by simp [addFlags]
@[simp] theorem addFlags_params (a m : Byte) (c : Bool) : (addFlags a m c s).params = s.params := by simp [addFlags]
@[simp] theorem addFlags_read (a m : Byte) (c : Bool) (q : Addr) : (addFlags a m c s).read q = s.read q := by simp [addFlags]

@[simp] theorem compare_a (r m : Byte) : (compare r m s).a = s.a := rfl
@[simp] theorem compare_x (r m : Byte) : (compare r m s).x = s.x := rfl
@[simp] theorem compare_y (r m : Byte) : (compare r m s).y = s.y := rfl
@[simp] theorem compare_sp (r m : Byte) : (compare r m s).sp = s.sp := rfl
@[simp] theorem compare_pc (r m : Byte) : (compare r m s).pc = s.pc := rfl
@[simp] theorem compare_clockticks (r m : Byte) : (compare r m s).clockticks = s.clockticks := rfl
@[simp] theorem compare_clockgoal (r m : Byte) : (compare r m s).clockgoal = s.clockgoal := rfl
@[simp] theorem compare_mem (r m : Byte) : (compare r m s).mem = s.mem := rfl
@[simp] theorem compare_ctl (r m : Byte) : (compare r m s).ctl = s.ctl := rfl
@[simp] theorem compare_host (r m : Byte) : (compare r m s).host = s.host := rfl
@[simp] theorem compare_params (r m : Byte) : (compare r m s).params = s.params := rfl
@[simp] theorem compare_read (r m : Byte) (q : Addr) : (compare r m s).read q = s.read q := rfl

theorem word16_bit (h l : Byte) (i : Nat) :
    (word16 h l).getLsbD i = if i < 8 then l.getLsbD i else h.getLsbD (i - 8) :=
  (BitVec.getLsbD_append (x := h) (y := l)).trans (by split <;> simp_all)

@[simp] theorem lo_word16 (h l : Byte) : lo (word16 h l) = l := by
  refine BitVec.eq_of_getLsbD_eq fun i hi => ?_
  simp [lo, word16_bit, hi]

@[simp] theorem hi_word16 (h l : Byte) : hi (word16 h l) = h := by
  refine BitVec.eq_of_getLsbD_eq fun i hi => ?_
  simp [Sys2Proof.hi, word16_bit, hi]

@[simp] theorem word16_hi_lo (w : Addr) : word16 (hi w) (lo w) = w := by
  refine BitVec.eq_of_getLsbD_eq fun i h => ?_
  by_cases h8 : i < 8
  · simp [lo, word16_bit, h8]
  · have e : 8 + (i - 8) = i := by omega
    have h9 : i - 8 < 8 := by omega
    simp [hi, word16_bit, h8, e, h9]

theorem word16_inj {h l h' l' : Byte} : word16 h l = word16 h' l' ↔ h = h' ∧ l = l' := by
  constructor
  · intro e
    have e1 := congrArg hi e
    have e2 := congrArg lo e
    simp at e1 e2
    exact ⟨e1, e2⟩
  · rintro ⟨rfl, rfl⟩
    rfl

@[simp] theorem stackAddr_inj {p q : Byte} : stackAddr p = stackAddr q ↔ p = q := by
  simp [stackAddr, word16_inj]

theorem lo_toNat (w : Addr) : (lo w).toNat = w.toNat % 256 := by
  simp [lo]

theorem hi_toNat (w : Addr) : (hi w).toNat = w.toNat / 256 := by
  have := w.isLt
  simp [hi, Nat.shiftRight_eq_div_pow]
  omega

theorem word16_toNat (h l : Byte) : (word16 h l).toNat = 256 * h.toNat + l.toNat := by
  rw [word16, BitVec.toNat_append, ← Nat.shiftLeft_add_eq_or_of_lt l.isLt, Nat.shiftLeft_eq, Nat.mul_comm]

/-- Every stack address lies in page 1 (R21). -/
theorem stackAddr_toNat (sp : Byte) : (stackAddr sp).toNat = 256 + sp.toNat := by
  simp [stackAddr, word16_toNat, Config.stackPage]

/-- No stack address is an address of another page. -/
theorem stackAddr_ne {sp h l : Byte} (hh : h ≠ Config.stackPage) : word16 h l ≠ stackAddr sp := by
  simp [stackAddr, word16_inj, hh]

theorem getFlag_putFlag (f g : Flag) (v : Bool) (p : Byte) :
    getFlag g (putFlag f v p) = if g = f then v else getFlag g p := by
  cases f <;> cases g <;> cases v <;> simp [getFlag, putFlag, Flag.bit, Flag.mask]

/-- Reading a flag after writing one. -/
@[simp] theorem State.flag_setFlag (s : State) (f g : Flag) (v : Bool) :
    (s.setFlag f v).flag g = if g = f then v else s.flag g := getFlag_putFlag f g v s.p

@[simp] theorem decimalAdc_nibble (a m : Byte) (c : Bool) : decimalAdc .nibble a m c = decAdc a m c := rfl
@[simp] theorem decimalSbc_nibble (a m : Byte) (c : Bool) : decimalSbc .nibble a m c = decSbc a m c := rfl
@[simp] theorem flagByte_binary (r d : Byte) : flagByte .binary r d = r := rfl
@[simp] theorem flagByte_corrected (r d : Byte) : flagByte .corrected r d = d := rfl

theorem setZN_flag (v : Byte) (g : Flag) :
    (setZN v s).flag g = if g = .n then v.msb else if g = .z then v == 0x00 else s.flag g := by
  simp [setZN]

/-- Everything the flags of an addition can be (R150). -/
theorem resultFlags_flag (a m r : Byte) (c : Bool) (g : Flag) :
    (resultFlags a m r c s).flag g =
      if g = .v then overflowOf a m r else if g = .n then r.msb
      else if g = .z then r == 0x00 else if g = .c then c else s.flag g := by
  simp [resultFlags, setZN_flag]

theorem addFlags_flag (a m : Byte) (c : Bool) (g : Flag) :
    (addFlags a m c s).flag g =
      if g = .v then sumOverflow a m c else if g = .n then (sumByte a m c).msb
      else if g = .z then sumByte a m c == 0x00 else if g = .c then decide (256 ≤ sumOf a m c) else s.flag g :=
  resultFlags_flag _ _ _ _ _ _

theorem compare_flag (r m : Byte) (g : Flag) :
    (compare r m s).flag g =
      if g = .n then (r - m).msb else if g = .z then r == m
      else if g = .c then decide (m.toNat ≤ r.toNat) else s.flag g := by
  simp [compare]

@[simp] theorem fetched_pc (n : Nat) : (fetched n s).pc = s.pc + BitVec.ofNat 16 n := rfl

@[simp] theorem fetched_flag (n : Nat) (g : Flag) : (fetched n s).flag g = if g = .u then true else s.flag g := by
  simp [fetched]

@[simp] theorem tick_clockticks (n : Nat) :
    (tick n s).clockticks = wrapCount s.params.cntWidth (s.clockticks + n) := rfl

@[simp] theorem wrapCount_none (n : Nat) : wrapCount none n = n := rfl

/-- A counter kept to its width stays so (R4). -/
@[simp] theorem wrapCount_wrapCount (w : Option Nat) (n : Nat) : wrapCount w (wrapCount w n) = wrapCount w n := by
  cases w <;> simp [wrapCount]

@[simp] theorem push8_sp (v : Byte) : (push8 v s).sp = s.sp - 1 := rfl

@[simp] theorem push8_read (v : Byte) (q : Addr) :
    (push8 v s).read q = if q = stackAddr s.sp then v else s.read q := by
  simp [push8]

@[simp] theorem push16_sp (w : Addr) : (push16 w s).sp = s.sp - 1 - 1 := by simp [push16]

theorem push16_read (w : Addr) (q : Addr) :
    (push16 w s).read q =
      if q = stackAddr (s.sp - 1) then lo w else if q = stackAddr s.sp then hi w else s.read q := by
  simp [push16]

/-- A pushed word's high byte lies where `SP` pointed (R60). -/
theorem push16_read_high (w : Addr) : (push16 w s).read (stackAddr s.sp) = hi w := by
  have h : s.sp ≠ s.sp - 1 := by bv_omega
  rw [push16_read, if_neg (by simpa using h), if_pos rfl]

/-- A pushed word's low byte lies one below (R60). -/
theorem push16_read_low (w : Addr) : (push16 w s).read (stackAddr (s.sp - 1)) = lo w := by
  rw [push16_read, if_pos rfl]

/-- Everything `Pull8` can do (R59). -/
theorem pull8_eq : pull8 s = (s.read (stackAddr (s.sp + 1)), s.setSp (s.sp + 1)) := rfl

/-- Everything `Pull16` can do (R61). -/
theorem pull16_eq : pull16 s =
    (word16 (s.read (stackAddr (s.sp + 1 + 1))) (s.read (stackAddr (s.sp + 1))), s.setSp (s.sp + 1 + 1)) := by
  simp [pull16, pull8_eq]
  rfl

/-- Everything `TrapEnter` can do (R241), field by field. -/
theorem trapEnter_fields (vec : Addr) (brk : Bool) :
    (trapEnter vec brk s).a = s.a ∧ (trapEnter vec brk s).x = s.x ∧ (trapEnter vec brk s).y = s.y ∧
    (trapEnter vec brk s).sp = s.sp - 1 - 1 - 1 ∧ (trapEnter vec brk s).clockticks = s.clockticks ∧
    (trapEnter vec brk s).clockgoal = s.clockgoal ∧ (trapEnter vec brk s).ctl = s.ctl ∧
    (trapEnter vec brk s).host = s.host ∧ (trapEnter vec brk s).params = s.params := by
  simp [trapEnter]

theorem trapEnter_flag (vec : Addr) (brk : Bool) (g : Flag) :
    (trapEnter vec brk s).flag g = if g = .i then true else s.flag g := by
  simp [trapEnter]

theorem trapEnter_read (vec : Addr) (brk : Bool) (q : Addr) :
    (trapEnter vec brk s).read q =
      if q = stackAddr (s.sp - 1 - 1) then (if brk then s.p ||| 0x10 else s.p)
      else if q = stackAddr (s.sp - 1) then lo s.pc else if q = stackAddr s.sp then hi s.pc else s.read q := by
  simp [trapEnter, push16_read]

theorem trapEnter_pc (vec : Addr) (brk : Bool) :
    (trapEnter vec brk s).pc = (trapEnter vec brk s).read16 vec := rfl

/-- Everything a return from a trap can do (R219, R249). -/
theorem trapReturn_eq : trapReturn s =
    ((s.setP (pulledStatus (s.read (stackAddr (s.sp + 1))))).setSp (s.sp + 1 + 1 + 1)).setPc
      (word16 (s.read (stackAddr (s.sp + 1 + 1 + 1))) (s.read (stackAddr (s.sp + 1 + 1)))) := by
  simp only [trapReturn, pull8_eq, pull16_eq]
  rfl

/-- The reset operation applied to the power-on state is the state the host starts from, but for `PC`, whose value the spec
leaves to the vector's unwritten bytes (R300; log entry 4). -/
theorem resetCpu_powerOn : (resetCpu State.powerOn).setPc State.reset.pc = State.reset := rfl

theorem setFlag_mem (f : Flag) (v : Bool) : (s.setFlag f v).mem = s.mem := rfl

theorem push8_mem (v : Byte) : (push8 v s).mem = Memory.write s.mem (stackAddr s.sp).toNat v := rfl

theorem trapEnter_mem (vec : Addr) (brk : Bool) :
    (trapEnter vec brk s).mem = (push8 (if brk then s.p ||| 0x10 else s.p) (push16 s.pc s)).mem := rfl

theorem push8_wf (v : Byte) (h : Memory.wf s.mem = true) : Memory.wf (push8 v s).mem = true := by
  rw [push8_mem]
  exact Memory.wf_write v (stackAddr s.sp).isLt h

theorem push16_wf (w : Addr) (h : Memory.wf s.mem = true) : Memory.wf (push16 w s).mem = true :=
  push8_wf (push8 (hi w) s) (lo w) (push8_wf s (hi w) h)

theorem trapEnter_wf (vec : Addr) (brk : Bool) (h : Memory.wf s.mem = true) :
    Memory.wf (trapEnter vec brk s).mem = true := by
  rw [trapEnter_mem]
  exact push8_wf _ _ (push16_wf _ _ h)

end Sys2Proof.Machine
end

