-- ==== Sys2Proof/Laws/Decode.lean ====
section
/-! SUPPORT. The decoder is total and gives only instructions (30_encoding R83); a step's fetch is that decoder. -/

namespace Sys2Proof

/-- Every cell of the opcode map is a row of the table by mnemonic, or the cell of an undefined opcode (R84, R85). -/
theorem mapCell_legal (op : Byte) :
    (if (mapCell op).1 = .und then undefinedOpcodes.contains op.toNat
      else (mapCell op).1.modes.contains (mapCell op).2 &&
        (findOpcode (mapCell op).2 (mapCell op).1.opcodes == some op) && !undefinedOpcodes.contains op.toNat) = true := by
  have h : ∀ n : Fin 256, (if (mapCell (BitVec.ofNat 8 n)).1 = .und then undefinedOpcodes.contains (BitVec.ofNat 8 n).toNat
      else (mapCell (BitVec.ofNat 8 n)).1.modes.contains (mapCell (BitVec.ofNat 8 n)).2 &&
        (findOpcode (mapCell (BitVec.ofNat 8 n)).2 (mapCell (BitVec.ofNat 8 n)).1.opcodes == some (BitVec.ofNat 8 n)) &&
        !undefinedOpcodes.contains (BitVec.ofNat 8 n).toNat) = true := by
    decide +kernel
  simpa using h ⟨op.toNat, op.isLt⟩

/-- The descriptor of an undefined opcode: the mode the parameter gives it (R83, R231). -/
theorem descriptor_of_und {d : UndefDesc} {op : Byte} (h : (mapCell op).1 = .und) :
    descriptor d op = (.und, modeIn d op.toNat) := by
  simp [descriptor, h]

/-- The descriptor of a documented opcode: its cell, whatever the parameter (R83, R84). -/
theorem descriptor_of_documented {d : UndefDesc} {op : Byte} (h : (mapCell op).1 ≠ .und) : descriptor d op = mapCell op := by
  unfold descriptor
  split
  · contradiction
  · rfl

/-- An opcode is undefined exactly when R85 lists it. -/
theorem descriptor_und_iff (d : UndefDesc) (op : Byte) : (descriptor d op).1 = .und ↔ op.toNat ∈ undefinedOpcodes := by
  have hl := mapCell_legal op
  by_cases h : (mapCell op).1 = .und
  · rw [if_pos h] at hl
    simpa [descriptor_of_und h] using hl
  · rw [if_neg h] at hl
    simp only [Bool.and_eq_true, Bool.not_eq_true', List.contains_eq_mem, decide_eq_false_iff_not] at hl
    simp [descriptor_of_documented h, h, hl.2]

theorem Mnemonic.und_modes (m : Mode) : Mnemonic.und.modes.contains m = true := by
  cases m <;> rfl

/-- Every descriptor is a row of the tables (R84, R85). -/
theorem descriptor_legal (d : UndefDesc) (op : Byte) : (descriptor d op).1.modes.contains (descriptor d op).2 = true := by
  have hl := mapCell_legal op
  by_cases h : (mapCell op).1 = .und
  · rw [descriptor_of_und h]
    exact Mnemonic.und_modes _
  · rw [if_neg h] at hl
    simp only [Bool.and_eq_true] at hl
    rw [descriptor_of_documented h]
    exact hl.1.1

/-- The two tables of R84 agree: the opcode found by mnemonic and mode is the one the matrix gives them to. -/
theorem descriptor_opcode (d : UndefDesc) (op : Byte) (h : (descriptor d op).1 ≠ .und) :
    findOpcode (descriptor d op).2 (descriptor d op).1.opcodes = some op := by
  have hl := mapCell_legal op
  by_cases hc : (mapCell op).1 = .und
  · exact absurd (by simp [descriptor_of_und hc]) h
  · rw [if_neg hc] at hl
    simp only [Bool.and_eq_true, beq_iff_eq] at hl
    rw [descriptor_of_documented hc]
    exact hl.1.2

@[simp] theorem Mode.operand_mode (m : Mode) (b1 b2 : Byte) : (m.operand b1 b2).mode = m := by
  cases m <;> rfl

/-- Decoding keeps the descriptor's mnemonic (R83). -/
theorem instrOf_mnemonic (d : UndefDesc) (op b1 b2 : Byte) : (instrOf d op b1 b2).mnemonic = (descriptor d op).1 := by
  unfold instrOf
  cases (descriptor d op).1 <;> rfl

/-- Decoding reads the operand of the descriptor's mode (R82, R83). -/
theorem instrOf_operand (d : UndefDesc) (op b1 b2 : Byte) :
    (instrOf d op b1 b2).operand = (descriptor d op).2.operand b1 b2 := by
  have hl := descriptor_legal d op
  unfold instrOf
  revert hl
  generalize descriptor d op = e
  obtain ⟨m, k⟩ := e
  cases m <;> cases k <;> simp [Mnemonic.modes, Instr.operand, Mode.operand]

/-- Decoding keeps the descriptor's mode (R83). -/
theorem instrOf_mode (d : UndefDesc) (op b1 b2 : Byte) : (instrOf d op b1 b2).operand.mode = (descriptor d op).2 := by
  rw [instrOf_operand, Mode.operand_mode]

/-- An undefined opcode is decoded with its own byte. -/
theorem instrOf_undOpcode (d : UndefDesc) (op b1 b2 : Byte) :
    (instrOf d op b1 b2).undOpcode = if (descriptor d op).1 = .und then some op else none := by
  unfold instrOf
  cases (descriptor d op).1 <;> rfl

/-- What the decoder gives is an instruction. -/
theorem instrOf_wf (d : UndefDesc) (op b1 b2 : Byte) : (instrOf d op b1 b2).wf = true := by
  have hl := descriptor_legal d op
  have hu := descriptor_und_iff d op
  simp only [Instr.wf, Instr.modeLegal, Instr.undUndefined, instrOf_mnemonic, instrOf_mode, instrOf_undOpcode, hl, Bool.true_and]
  by_cases h : (descriptor d op).1 = .und
  · simpa [h] using hu
  · simp [h]

/-- The length the decoder gives is the descriptor's (R83). -/
theorem instrOf_length (d : UndefDesc) (op b1 b2 : Byte) : (instrOf d op b1 b2).length = (descriptor d op).2.length := by
  simp [Instr.length, instrOf_mode]

theorem Mode.operandBytes_le (m : Mode) : m.operandBytes ≤ 2 := by
  cases m <;> decide

/-- With two bytes after the opcode the decoder always answers. -/
theorem decode_three (d : UndefDesc) (op b1 b2 : Byte) (rest : List Byte) :
    decode d (op :: b1 :: b2 :: rest) =
      .ok (instrOf d op b1 b2, (b1 :: b2 :: rest).drop (descriptor d op).2.operandBytes) := by
  have := Mode.operandBytes_le (descriptor d op).2
  simp only [decode]
  rw [if_neg (by simp; omega)]
  simp

namespace Machine

/-- A step fetches what the decoder reads from the bytes at `PC`. -/
theorem decode_fetchBytes (s : State) :
    decode s.params.undefDesc (fetchBytes s) = .ok (fetchInstr s,
      ([s.read (s.pc + 1), s.read (s.pc + 2)]).drop (descriptor s.params.undefDesc (s.read s.pc)).2.operandBytes) :=
  decode_three _ _ _ _ _

theorem fetchInstr_wf (s : State) : (fetchInstr s).wf = true := instrOf_wf _ _ _ _

end Machine

end Sys2Proof
end

