-- ==== Sys2Proof/Laws/Operands.lean ====
section
/-! SUPPORT. The resolver's values do not depend on `PC` or `P` (40_addressing_modes R100), so they are the same before and
after the fetch; and everything `perform` can answer (70_reset_and_hazards R305). -/

namespace Sys2Proof.Machine

variable (s : State)

@[simp] theorem effAddr_fetched (o : Operand) (n : Nat) : effAddr o (fetched n s) = effAddr o s := by
  cases o <;> rfl

@[simp] theorem baseAddr_fetched (o : Operand) (n : Nat) : baseAddr o (fetched n s) = baseAddr o s := by
  cases o <;> rfl

@[simp] theorem pageCross_fetched (o : Operand) (n : Nat) : pageCross o (fetched n s) = pageCross o s := by
  simp [pageCross]

@[simp] theorem getValue_fetched (o : Operand) (n : Nat) : getValue o (fetched n s) = getValue o s := by
  cases o <;> rfl

@[simp] theorem effAddr_setFlag (o : Operand) (f : Flag) (v : Bool) : effAddr o (s.setFlag f v) = effAddr o s := by
  cases o <;> rfl

/-- Writing the operand's place touches nothing but `A` and memory (R115). -/
theorem putValue_fields (o : Operand) (v : Byte) :
    (putValue o v s).x = s.x ∧ (putValue o v s).y = s.y ∧ (putValue o v s).sp = s.sp ∧ (putValue o v s).pc = s.pc ∧
    (putValue o v s).p = s.p ∧ (putValue o v s).clockticks = s.clockticks ∧ (putValue o v s).clockgoal = s.clockgoal ∧
    (putValue o v s).ctl = s.ctl ∧ (putValue o v s).host = s.host ∧ (putValue o v s).params = s.params := by
  unfold putValue
  cases o <;> simp only [effAddr] <;> simp

@[simp] theorem putValue_flag (o : Operand) (v : Byte) (f : Flag) : (putValue o v s).flag f = s.flag f := by
  unfold State.flag
  rw [(putValue_fields s o v).2.2.2.2.1]

theorem putValue_a (o : Operand) (v : Byte) : (putValue o v s).a = if o = .acc then v else s.a := by
  unfold putValue
  cases o <;> simp [effAddr]

/-- Writing the operand's place changes exactly the byte at the effective address, and none in a mode without one (R115). -/
theorem putValue_read (o : Operand) (v : Byte) (q : Addr) :
    (putValue o v s).read q = if effAddr o s = some q then v else s.read q := by
  unfold putValue
  cases o <;> simp [effAddr, eq_comm]

theorem putValue_wf (o : Operand) (v : Byte) (h : Memory.wf s.mem = true) :
    Memory.wf (putValue o v s).mem = true := by
  unfold putValue
  split
  · exact h
  · split
    · exact State.write_wf _ _ h
    · exact h

@[simp] theorem baseCost_fetched (i : Instr) (n : Nat) : baseCost i (fetched n s) = baseCost i s := by
  simp [baseCost]

/-- What performing an instruction answers (R305). -/
theorem perform_of_wf {i : Instr} (h : i.wf = true) (rule : State → State) (extra : State → Nat) :
    perform i rule extra s =
      .next (tick (baseCost i s + extra (fetched i.length s)) (rule (fetched i.length s))) := by
  simp [perform, h]

/-- If performing an instruction answers a next state, the term was an instruction and the state is the rule's, ticked. -/
theorem perform_next {i : Instr} {rule : State → State} {extra : State → Nat} {t : State}
    (h : perform i rule extra s = .next t) :
    i.wf = true ∧ t = tick (baseCost i s + extra (fetched i.length s)) (rule (fetched i.length s)) := by
  unfold perform at h
  split at h
  · next hw =>
    refine ⟨hw, ?_⟩
    injection h with h
    rw [← h, baseCost_fetched]
  · cases h

end Sys2Proof.Machine
end

