-- ==== Sys2Proof/Laws/PerInstr.lean ====
section
/-! SUPPORT. One family of lemmas per instruction: the encoding of an instruction has the instruction's length, 1 to 3 bytes
(30_encoding R80, R81). -/

namespace Sys2Proof.Laws.EncodedLength

/-- The encoding of an instruction is as long as its mode says, and 1 to 3 bytes. -/
def Statement (i : Instr) : Prop :=
  i.wf = true → (encode i).length = i.length ∧ 1 ≤ i.length ∧ i.length ≤ 3

theorem of_operand (i : Instr) : Statement i := by
  intro h
  have hb : i.operand.bytes.length = i.operand.mode.operandBytes := by
    cases i.operand <;> rfl
  have hl := Mode.operandBytes_le i.operand.mode
  simp only [encode, h, if_true, List.length_cons, hb, Instr.length, Mode.length]
  exact ⟨trivial, by omega, by omega⟩

theorem lda (o : Operand) : Statement (.lda o) := of_operand _
theorem ldx (o : Operand) : Statement (.ldx o) := of_operand _
theorem ldy (o : Operand) : Statement (.ldy o) := of_operand _
theorem sta (o : Operand) : Statement (.sta o) := of_operand _
theorem stx (o : Operand) : Statement (.stx o) := of_operand _
theorem sty (o : Operand) : Statement (.sty o) := of_operand _
theorem tax : Statement .tax := of_operand _
theorem tay : Statement .tay := of_operand _
theorem txa : Statement .txa := of_operand _
theorem tya : Statement .tya := of_operand _
theorem tsx : Statement .tsx := of_operand _
theorem txs : Statement .txs := of_operand _
theorem pha : Statement .pha := of_operand _
theorem php : Statement .php := of_operand _
theorem pla : Statement .pla := of_operand _
theorem plp : Statement .plp := of_operand _
theorem adc (o : Operand) : Statement (.adc o) := of_operand _
theorem sbc (o : Operand) : Statement (.sbc o) := of_operand _
theorem cmp (o : Operand) : Statement (.cmp o) := of_operand _
theorem cpx (o : Operand) : Statement (.cpx o) := of_operand _
theorem cpy (o : Operand) : Statement (.cpy o) := of_operand _
theorem inc (o : Operand) : Statement (.inc o) := of_operand _
theorem inx : Statement .inx := of_operand _
theorem iny : Statement .iny := of_operand _
theorem dec (o : Operand) : Statement (.dec o) := of_operand _
theorem dex : Statement .dex := of_operand _
theorem dey : Statement .dey := of_operand _
theorem and (o : Operand) : Statement (.and o) := of_operand _
theorem ora (o : Operand) : Statement (.ora o) := of_operand _
theorem eor (o : Operand) : Statement (.eor o) := of_operand _
theorem bit (o : Operand) : Statement (.bit o) := of_operand _
theorem asl (o : Operand) : Statement (.asl o) := of_operand _
theorem lsr (o : Operand) : Statement (.lsr o) := of_operand _
theorem rol (o : Operand) : Statement (.rol o) := of_operand _
theorem ror (o : Operand) : Statement (.ror o) := of_operand _
theorem jmp (o : Operand) : Statement (.jmp o) := of_operand _
theorem jsr (w : Addr) : Statement (.jsr w) := of_operand _
theorem rts : Statement .rts := of_operand _
theorem bcc (off : Byte) : Statement (.bcc off) := of_operand _
theorem bcs (off : Byte) : Statement (.bcs off) := of_operand _
theorem beq (off : Byte) : Statement (.beq off) := of_operand _
theorem bne (off : Byte) : Statement (.bne off) := of_operand _
theorem bmi (off : Byte) : Statement (.bmi off) := of_operand _
theorem bpl (off : Byte) : Statement (.bpl off) := of_operand _
theorem bvc (off : Byte) : Statement (.bvc off) := of_operand _
theorem bvs (off : Byte) : Statement (.bvs off) := of_operand _
theorem clc : Statement .clc := of_operand _
theorem sec : Statement .sec := of_operand _
theorem cli : Statement .cli := of_operand _
theorem sei : Statement .sei := of_operand _
theorem clv : Statement .clv := of_operand _
theorem cld : Statement .cld := of_operand _
theorem sed : Statement .sed := of_operand _
theorem nop : Statement .nop := of_operand _
theorem brk : Statement .brk := of_operand _
theorem rti : Statement .rti := of_operand _
theorem und (op : Byte) (o : Operand) : Statement (.und op o) := of_operand _

end Sys2Proof.Laws.EncodedLength
end

