-- ==== Sys2Proof/Laws/Step.lean ====
section
/-! SUPPORT. Every instruction is performed in the one way of 70_reset_and_hazards R305, so it completes exactly when it is an
instruction; and what a step does, by what is pending and what the controller does. -/

namespace Sys2Proof.Machine

/-- Every meaning is the fetch, a rule of its own and the cost: whatever holds of `perform` holds of it. -/
theorem exec_performs (i : Instr) : ∃ rule extra, ∀ s, exec i s = perform i rule extra s := by
  cases i <;> exact ⟨_, _, fun _ => by
    simp only [exec, branch, Config.undefMode, execLda, execLdx, execLdy, execSta, execStx, execSty, execTax, execTay, execTxa, execTya, execTsx, execTxs,
      execPha, execPhp, execPla, execPlp, execAdc, execSbc, execCmp, execCpx, execCpy, execInc, execInx, execIny,
      execDec, execDex, execDey, execAnd, execOra, execEor, execBit, execAsl, execLsr, execRol, execRor, execJmp,
      execJsr, execRts, execBcc, execBcs, execBeq, execBne, execBmi, execBpl, execBvc, execBvs, execClc, execSec,
      execCli, execSei, execClv, execCld, execSed, execNop, execBrk, execRti, execUnd]
    rfl⟩

/-- A well-formed instruction completes in every state (R8). -/
theorem exec_of_wf {i : Instr} (h : i.wf = true) (s : State) : ∃ t, exec i s = .next t := by
  obtain ⟨rule, extra, he⟩ := exec_performs i
  exact ⟨_, (he s).trans (perform_of_wf s h rule extra)⟩

/-- Only a well-formed instruction completes (log entry 10). -/
theorem wf_of_exec {i : Instr} {s t : State} (h : exec i s = .next t) : i.wf = true := by
  obtain ⟨rule, extra, he⟩ := exec_performs i
  exact (perform_next s ((he s).symm.trans h)).1

/-- The core's `step()` has a successor in every state (R305). -/
theorem cpuStep_next (s : State) : ∃ t, cpuStep s = .next t := exec_of_wf (fetchInstr_wf s) s

theorem step_of_pending_nil {s : State} (h : s.host.pending = []) : step s = proceed s := by
  simp [step, advance, h]

theorem step_of_enabled {s : State} {e : Event} {rest : List Event} (h : s.host.pending = e :: rest)
    (he : enabled e s = true) : step s = fire e (s.setHost { s.host with pending := rest }) := by
  simp [step, advance, h, he]

theorem step_of_disabled {s : State} {e : Event} {rest : List Event} (h : s.host.pending = e :: rest)
    (he : enabled e s = false) : step s = proceed s := by
  simp [step, advance, h, he]

/-- In `Idle` no step is issued (R270) but by a host that steps the core itself (R283). -/
theorem proceed_of_idle {s : State} (h : s.ctl.ctrl = .idle) :
    proceed s = if s.host.stepping = true then cpuStep s else .next s := by
  simp [proceed, h]

theorem proceed_of_running {s : State} (h : s.ctl.ctrl ≠ .idle) : proceed s = iterate s := by
  unfold proceed
  split <;> simp_all

/-- A halt changes the controller and the host's side only: `Idle`, count 0, one report, and no stepping (R276, R270). -/
theorem halt_eq (r : Report) (s : State) : halt r s = { s with
    ctl := { s.ctl with ctrl := .idle, remaining := 0 }
    host := { s.host with outputs := s.host.outputs ++ [.report r], stepping := false } } := rfl

/-- With no key offered the poll does nothing (R279). -/
theorem pollKey_of_no_keys {s : State} (h : s.host.keys = []) : pollKey s = s := by
  unfold pollKey
  split <;> simp_all

/-- An interrupt entry neither reads nor changes the host's side (R243). -/
theorem irq_setHost (s : State) (h : HostSide) : irq (s.setHost h) = (irq s).setHost h := by
  unfold irq
  rw [show ((s.setHost h).params.irqRespectsI && (s.setHost h).flag .i) = (s.params.irqRespectsI && s.flag .i) from rfl]
  cases (s.params.irqRespectsI && s.flag .i) <;> rfl

/-- A delivery reads of the host's side only where the platform bytes lie, and changes none of it (R259). -/
theorem deliverKey_setHost (b : Byte) (s : State) (h : HostSide) (hp : h.platform = s.host.platform) :
    deliverKey b (s.setHost h) = (deliverKey b s).setHost h := by
  unfold deliverKey ixByte
  rw [← irq_setHost, show (s.setHost h).host.platform = s.host.platform from hp]
  rfl

/-- With busy set the poll does nothing (R276 part 1, R279). -/
theorem pollKey_of_busy {s : State} (h : busy s = true) : pollKey s = s := by
  unfold pollKey
  split <;> simp_all

/-- Outside `Continuous` the poll does nothing (R279). -/
theorem pollKey_of_not_continuous {s : State} (h : s.ctl.ctrl ≠ .continuous) : pollKey s = s := by
  unfold pollKey
  split <;> simp_all

/-- The table is full exactly when `BP_CAPACITY` is a number of slots all of which are used (R4). -/
theorem bpFull_iff {s : State} : bpFull s = true ↔ ∃ n, s.params.bpCapacity = some n ∧ n ≤ s.ctl.bps.length := by
  unfold bpFull
  split <;> simp_all

/-- A turn of `execute`'s loop is a core step of the state that still has the loop to do, or the loop's end (R306). -/
theorem executeTurn_next {s t : State} (h : executeTurn s = .next t) :
    (s.clockticks < s.clockgoal ∧ cpuStep (s.setHost { s.host with pending := .executing :: s.host.pending }) = .next t) ∨
    (s.clockgoal ≤ s.clockticks ∧ t = s) := by
  unfold executeTurn at h
  split at h
  · exact .inl ⟨‹_›, h⟩
  · injection h with h
    exact .inr ⟨by omega, h.symm⟩

end Sys2Proof.Machine
end

