-- ==== Sys2Proof/Tests/Slice0.lean ====
section
/-! SUPPORT. Tests: the checks of WellFormed refuse, words written out from the spec's opcode map decode to what they stand
for, one step on small states gives what the spec's worked examples give, and each statement's hypotheses can be met. -/

namespace Sys2Proof.Tests
open Sys2Proof.Machine Sys2Proof.Claims

/-! ## Well-formedness -/

/-- The check of modes refuses STA immediate (R123: there is no immediate form), and exec refuses the term. -/
theorem test_modeLegal_refuses : (Instr.sta (.imm 0x10)).modeLegal = false ∧ (Instr.sta (.imm 0x10)).wf = false ∧
    exec (.sta (.imm 0x10)) State.reset = .refused .illFormed := ⟨by decide, by decide, rfl⟩

/-- The check of undefined opcodes refuses a documented opcode's byte (0xEA is NOP) and admits an undefined one (0xEB). -/
theorem test_undUndefined_refuses : (Instr.und 0xEA .imp).undUndefined = false ∧ (Instr.und 0xEA .imp).wf = false ∧
    (Instr.und 0xEB (.imm 0x00)).undUndefined = true ∧ (Instr.und 0xEB (.imm 0x00)).wf = true := by decide

/-! ## Decoding: words written out from R84 (the opcode in the low byte, the operand 0x96 or 0xC35A above it) -/

theorem test_decode_loads_stores :
    decodeTableWord 24 0b110000110101101010111101 = some (.lda (.absx 0xC35A)) ∧
    decodeTableWord 16 0b1001011010110110 = some (.ldx (.zpy 0x96)) ∧
    decodeTableWord 24 0b110000110101101010101100 = some (.ldy (.abs 0xC35A)) ∧
    decodeTableWord 16 0b1001011010010001 = some (.sta (.indy 0x96)) ∧
    decodeTableWord 16 0b1001011010010110 = some (.stx (.zpy 0x96)) ∧
    decodeTableWord 16 0b1001011010010100 = some (.sty (.zpx 0x96)) := by decide

theorem test_decode_transfers_stack :
    decodeTableWord 8 0b10101010 = some .tax ∧
    decodeTableWord 8 0b10101000 = some .tay ∧
    decodeTableWord 8 0b10001010 = some .txa ∧
    decodeTableWord 8 0b10011000 = some .tya ∧
    decodeTableWord 8 0b10111010 = some .tsx ∧
    decodeTableWord 8 0b10011010 = some .txs ∧
    decodeTableWord 8 0b01001000 = some .pha ∧
    decodeTableWord 8 0b00001000 = some .php ∧
    decodeTableWord 8 0b01101000 = some .pla ∧
    decodeTableWord 8 0b00101000 = some .plp := by decide

theorem test_decode_arithmetic :
    decodeTableWord 16 0b1001011001101001 = some (.adc (.imm 0x96)) ∧
    decodeTableWord 24 0b110000110101101011111001 = some (.sbc (.absy 0xC35A)) ∧
    decodeTableWord 16 0b1001011011000001 = some (.cmp (.indx 0x96)) ∧
    decodeTableWord 16 0b1001011011100100 = some (.cpx (.zp 0x96)) ∧
    decodeTableWord 16 0b1001011011000000 = some (.cpy (.imm 0x96)) ∧
    decodeTableWord 24 0b110000110101101011111110 = some (.inc (.absx 0xC35A)) ∧
    decodeTableWord 8 0b11101000 = some .inx ∧
    decodeTableWord 8 0b11001000 = some .iny ∧
    decodeTableWord 16 0b1001011011010110 = some (.dec (.zpx 0x96)) ∧
    decodeTableWord 8 0b11001010 = some .dex ∧
    decodeTableWord 8 0b10001000 = some .dey := by decide

theorem test_decode_logic_shift :
    decodeTableWord 16 0b1001011000100101 = some (.and (.zp 0x96)) ∧
    decodeTableWord 16 0b1001011000000001 = some (.ora (.indx 0x96)) ∧
    decodeTableWord 24 0b110000110101101001011001 = some (.eor (.absy 0xC35A)) ∧
    decodeTableWord 24 0b110000110101101000101100 = some (.bit (.abs 0xC35A)) ∧
    decodeTableWord 8 0b00001010 = some (.asl .acc) ∧
    decodeTableWord 16 0b1001011001010110 = some (.lsr (.zpx 0x96)) ∧
    decodeTableWord 24 0b110000110101101000101110 = some (.rol (.abs 0xC35A)) ∧
    decodeTableWord 24 0b110000110101101001111110 = some (.ror (.absx 0xC35A)) := by decide

theorem test_decode_control_flow :
    decodeTableWord 24 0b110000110101101001101100 = some (.jmp (.ind 0xC35A)) ∧
    decodeTableWord 24 0b110000110101101000100000 = some (.jsr 0xC35A) ∧
    decodeTableWord 8 0b01100000 = some .rts ∧
    decodeTableWord 16 0b1001011010010000 = some (.bcc 0x96) ∧
    decodeTableWord 16 0b1001011010110000 = some (.bcs 0x96) ∧
    decodeTableWord 16 0b1001011011110000 = some (.beq 0x96) ∧
    decodeTableWord 16 0b1001011011010000 = some (.bne 0x96) ∧
    decodeTableWord 16 0b1001011000110000 = some (.bmi 0x96) ∧
    decodeTableWord 16 0b1001011000010000 = some (.bpl 0x96) ∧
    decodeTableWord 16 0b1001011001010000 = some (.bvc 0x96) ∧
    decodeTableWord 16 0b1001011001110000 = some (.bvs 0x96) := by decide

theorem test_decode_flags_system :
    decodeTableWord 8 0b00011000 = some .clc ∧
    decodeTableWord 8 0b00111000 = some .sec ∧
    decodeTableWord 8 0b01011000 = some .cli ∧
    decodeTableWord 8 0b01111000 = some .sei ∧
    decodeTableWord 8 0b10111000 = some .clv ∧
    decodeTableWord 8 0b11011000 = some .cld ∧
    decodeTableWord 8 0b11111000 = some .sed ∧
    decodeTableWord 8 0b11101010 = some .nop ∧
    decodeTableWord 8 0b00000000 = some .brk ∧
    decodeTableWord 8 0b01000000 = some .rti := by decide

/-- One undefined opcode per length (R231). -/
theorem test_decode_undefined : decodeTableWord 8 0b00000010 = some (.und 0x02 .imp) ∧
    decodeTableWord 16 0b1001011011101011 = some (.und 0xEB (.imm 0x96)) ∧
    decodeTableWord 24 0b110000110101101011111111 = some (.und 0xFF (.absx 0xC35A)) := by decide

/-- A list of bytes that ends before the operand does is refused by name, and so is an empty one. -/
theorem test_decode_refuses : (match decode defaultUndefDesc [0xAD, 0x34] with | .error .operandCut => true | _ => false) = true ∧
    (match decode defaultUndefDesc [] with | .error .noOpcode => true | _ => false) = true := by decide

/-! ## One step on the vectors of 95_test_vectors section 2 -/

/-- A small state: registers, `PC`, `P` and the listed bytes. -/
def before (a x y sp : Byte) (pc : Addr) (p : Byte) (m : List (Addr × Byte)) : State :=
  m.foldl (fun s c => s.write c.1 c.2) { State.reset with
    a := a, x := x, y := y, sp := sp, pc := pc, p := p, host := { HostSide.initial with stepping := true } }

/-- `A`, `X`, `Y`, `SP`, `PC`, `P`, ticks. -/
def regs (s : State) : List Nat :=
  [s.a.toNat, s.x.toNat, s.y.toNat, s.sp.toNat, s.pc.toNat, s.p.toNat, s.clockticks]

/-- A step ends with these registers and bytes. -/
def gives (s : State) (r : List Nat) (m : List (Addr × Byte)) : Bool :=
  match step s with
  | .next t => decide (regs t = r) && m.all (fun c => t.read c.1 == c.2)
  | .fault _ | .refused _ => false

/-- What an outcome carries. -/
def got (o : Host.Outcome State Fault Refusal) : State :=
  match o with
  | .next t => t
  | .fault _ | .refused _ => State.reset

/-- The state with one event pending. -/
def withEvent (e : Event) (s : State) : State := s.setHost { s.host with pending := [e] }

/-- Vector M16: indy sum wraps modulo 65536: FF80+FF=007F. -/
theorem test_lda_M16 : gives (before 0x00 0x00 0xFF 0xFD 0x0200 0x20 [(0x0200, 0xB1), (0x0201, 0x20), (0x0020, 0x80), (0x0021, 0xFF), (0x007F, 0x42)])
    [0x42, 0x00, 0xFF, 0xFD, 0x0202, 0x20, 6] [] = true := by decide

/-- Vector M4: zpy wraps in page 0. -/
theorem test_ldx_M4 : gives (before 0x00 0x00 0x20 0xFD 0x0200 0x20 [(0x0200, 0xB6), (0x0201, 0xF0), (0x0010, 0x42), (0x0110, 0x99)])
    [0x00, 0x42, 0x20, 0xFD, 0x0202, 0x20, 4] [] = true := by decide

/-- Vector L8: LDY zpx, wrap to 00. -/
theorem test_ldy_L8 : gives (before 0x00 0x80 0x00 0xFD 0x0200 0x20 [(0x0200, 0xB4), (0x0201, 0x80), (0x0000, 0x90)])
    [0x00, 0x80, 0x90, 0xFD, 0x0202, 0xA0, 4] [] = true := by decide

/-- Vector L14: STA indy across a page: cost 6 always. -/
theorem test_sta_L14 : gives (before 0x5A 0x00 0x10 0xFD 0x0200 0x20 [(0x0200, 0x91), (0x0201, 0x20), (0x0020, 0xF8), (0x0021, 0x12)])
    [0x5A, 0x00, 0x10, 0xFD, 0x0202, 0x20, 6] [(0x1308, 0x5A)] = true := by decide

/-- Vector L15: STX zpy wraps. -/
theorem test_stx_L15 : gives (before 0x00 0x77 0x20 0xFD 0x0200 0x20 [(0x0200, 0x96), (0x0201, 0xF0)])
    [0x00, 0x77, 0x20, 0xFD, 0x0202, 0x20, 4] [(0x0010, 0x77)] = true := by decide

/-- Vector L18: STY abs to 0xFFFF: vectors are writable. -/
theorem test_sty_L18 : gives (before 0x00 0x00 0x66 0xFD 0x0200 0x20 [(0x0200, 0x8C), (0x0201, 0xFF), (0x0202, 0xFF)])
    [0x00, 0x00, 0x66, 0xFD, 0x0203, 0x20, 4] [(0xFFFF, 0x66)] = true := by decide

/-- Vector L19: TAX sets N. -/
theorem test_tax_L19 : gives (before 0x80 0x00 0x00 0xFD 0x0200 0x20 [(0x0200, 0xAA)])
    [0x80, 0x80, 0x00, 0xFD, 0x0201, 0xA0, 2] [] = true := by decide

/-- Vector L20: TAY sets Z. -/
theorem test_tay_L20 : gives (before 0x00 0x00 0x33 0xFD 0x0200 0x20 [(0x0200, 0xA8)])
    [0x00, 0x00, 0x00, 0xFD, 0x0201, 0x22, 2] [] = true := by decide

/-- Vector L21: TXA. -/
theorem test_txa_L21 : gives (before 0xFF 0x01 0x00 0xFD 0x0200 0xA0 [(0x0200, 0x8A)])
    [0x01, 0x01, 0x00, 0xFD, 0x0201, 0x20, 2] [] = true := by decide

/-- Vector L22: TYA. -/
theorem test_tya_L22 : gives (before 0x00 0x00 0xF0 0xFD 0x0200 0x20 [(0x0200, 0x98)])
    [0xF0, 0x00, 0xF0, 0xFD, 0x0201, 0xA0, 2] [] = true := by decide

/-- Vector L24: TSX sets Z. -/
theorem test_tsx_L24 : gives (before 0x00 0x11 0x00 0x00 0x0200 0x20 [(0x0200, 0xBA)])
    [0x00, 0x00, 0x00, 0x00, 0x0201, 0x22, 2] [] = true := by decide

/-- Vector L25: TXS: no flag changes although X is 00. -/
theorem test_txs_L25 : gives (before 0x00 0x00 0x00 0xFD 0x0200 0xA0 [(0x0200, 0x9A)])
    [0x00, 0x00, 0x00, 0x00, 0x0201, 0xA0, 2] [] = true := by decide

/-- Vector K2: PHA at SP=00 writes 0100, SP wraps to FF. -/
theorem test_pha_K2 : gives (before 0x5A 0x00 0x00 0x00 0x0200 0x20 [(0x0200, 0x48)])
    [0x5A, 0x00, 0x00, 0xFF, 0x0201, 0x20, 3] [(0x0100, 0x5A)] = true := by decide

/-- Vector K3: PHP pushes P or 0x30 = 33 (D7); P itself unchanged. -/
theorem test_php_K3 : gives (before 0x00 0x00 0x00 0xFD 0x0200 0x23 [(0x0200, 0x08)])
    [0x00, 0x00, 0x00, 0xFC, 0x0201, 0x23, 3] [(0x01FD, 0x33)] = true := by decide

/-- Vector K6: PLA at SP=FF reads 0100, SP wraps to 00. -/
theorem test_pla_K6 : gives (before 0x00 0x00 0x00 0xFF 0x0200 0x20 [(0x0200, 0x68), (0x0100, 0x80)])
    [0x80, 0x00, 0x00, 0x00, 0x0201, 0xA0, 4] [] = true := by decide

/-- Vector K7: PLP loads all bits, bit 5 forced: DF -> FF (D6). -/
theorem test_plp_K7 : gives (before 0x00 0x00 0x00 0xFC 0x0200 0x20 [(0x0200, 0x28), (0x01FD, 0xDF)])
    [0x00, 0x00, 0x00, 0xFD, 0x0201, 0xFF, 4] [] = true := by decide

/-- Vector A8: ADC D0+90: C and V. -/
theorem test_adc_A8 : gives (before 0xD0 0x00 0x00 0xFD 0x0200 0x20 [(0x0200, 0x69), (0x0201, 0x90)])
    [0x60, 0x00, 0x00, 0xFD, 0x0202, 0x61, 2] [] = true := by decide

/-- Vector A20: decimal ADC 99+01: A=00 C=1 but Z=0 N=1 (binary sum 9A) (D10). -/
theorem test_adc_A20 : gives (before 0x99 0x00 0x00 0xFD 0x0200 0x28 [(0x0200, 0x69), (0x0201, 0x01)])
    [0x00, 0x00, 0x00, 0xFD, 0x0202, 0xA9, 3] [] = true := by decide

/-- Vector A12: SBC 50-10 with borrow in (C=0): 3F. -/
theorem test_sbc_A12 : gives (before 0x50 0x00 0x00 0xFD 0x0200 0x20 [(0x0200, 0xE9), (0x0201, 0x10)])
    [0x3F, 0x00, 0x00, 0xFD, 0x0202, 0x21, 2] [] = true := by decide

/-- Vector A25: decimal SBC 12-21=91 borrow. -/
theorem test_sbc_A25 : gives (before 0x12 0x00 0x00 0xFD 0x0200 0x29 [(0x0200, 0xE9), (0x0201, 0x21)])
    [0x91, 0x00, 0x00, 0xFD, 0x0202, 0xA8, 3] [] = true := by decide

/-- Vector A33: CMP 00 with FF: difference 01; V kept. -/
theorem test_cmp_A33 : gives (before 0x00 0x00 0x00 0xFD 0x0200 0x60 [(0x0200, 0xC9), (0x0201, 0xFF)])
    [0x00, 0x00, 0x00, 0xFD, 0x0202, 0x60, 2] [] = true := by decide

/-- Vector A37: CPX. -/
theorem test_cpx_A37 : gives (before 0x00 0x0F 0x00 0xFD 0x0200 0x63 [(0x0200, 0xE0), (0x0201, 0x10)])
    [0x00, 0x0F, 0x00, 0xFD, 0x0202, 0xE0, 2] [] = true := by decide

/-- Vector A40: CPY zp less. -/
theorem test_cpy_A40 : gives (before 0x00 0x00 0x01 0xFD 0x0200 0x20 [(0x0200, 0xC4), (0x0201, 0x10), (0x0010, 0x02)])
    [0x00, 0x00, 0x01, 0xFD, 0x0202, 0xA0, 3] [] = true := by decide

/-- Vector A44: INC zpx wrap. -/
theorem test_inc_A44 : gives (before 0x00 0x02 0x00 0xFD 0x0200 0x20 [(0x0200, 0xF6), (0x0201, 0xFF), (0x0001, 0x10)])
    [0x00, 0x02, 0x00, 0xFD, 0x0202, 0x20, 6] [(0x0001, 0x11)] = true := by decide

/-- Vector A51: INX wrap. -/
theorem test_inx_A51 : gives (before 0x00 0xFF 0x00 0xFD 0x0200 0x20 [(0x0200, 0xE8)])
    [0x00, 0x00, 0x00, 0xFD, 0x0201, 0x22, 2] [] = true := by decide

/-- Vector A52: INY. -/
theorem test_iny_A52 : gives (before 0x00 0x00 0x7F 0xFD 0x0200 0x20 [(0x0200, 0xC8)])
    [0x00, 0x00, 0x80, 0xFD, 0x0201, 0xA0, 2] [] = true := by decide

/-- Vector A46: DEC 00->FF. -/
theorem test_dec_A46 : gives (before 0x00 0x00 0x00 0xFD 0x0200 0x20 [(0x0200, 0xC6), (0x0201, 0x10), (0x0010, 0x00)])
    [0x00, 0x00, 0x00, 0xFD, 0x0202, 0xA0, 5] [(0x0010, 0xFF)] = true := by decide

/-- Vector A54: DEX keeps C, V. -/
theorem test_dex_A54 : gives (before 0x00 0x80 0x00 0xFD 0x0200 0xE3 [(0x0200, 0xCA)])
    [0x00, 0x7F, 0x00, 0xFD, 0x0201, 0x61, 2] [] = true := by decide

/-- Vector A55: DEY. -/
theorem test_dey_A55 : gives (before 0x00 0x00 0x01 0xFD 0x0200 0x20 [(0x0200, 0x88)])
    [0x00, 0x00, 0x00, 0xFD, 0x0201, 0x22, 2] [] = true := by decide

/-- Vector G2: AND negative; C V kept. -/
theorem test_and_G2 : gives (before 0xFF 0x00 0x00 0xFD 0x0200 0x63 [(0x0200, 0x29), (0x0201, 0xF0)])
    [0xF0, 0x00, 0x00, 0xFD, 0x0202, 0xE1, 2] [] = true := by decide

/-- Vector G6: ORA absy cross. -/
theorem test_ora_G6 : gives (before 0x01 0x00 0x01 0xFD 0x0200 0x20 [(0x0200, 0x19), (0x0201, 0xFF), (0x0202, 0x12), (0x1300, 0x10)])
    [0x11, 0x00, 0x01, 0xFD, 0x0203, 0x20, 5] [] = true := by decide

/-- Vector G9: EOR indx. -/
theorem test_eor_G9 : gives (before 0x55 0x00 0x00 0xFD 0x0200 0x20 [(0x0200, 0x41), (0x0201, 0x20), (0x0020, 0x00), (0x0021, 0x30), (0x3000, 0xAA)])
    [0xFF, 0x00, 0x00, 0xFD, 0x0202, 0xA0, 6] [] = true := by decide

/-- Vector G10: BIT: Z from A and M = 0; N, V from M bits 7, 6. -/
theorem test_bit_G10 : gives (before 0x01 0x00 0x00 0xFD 0x0200 0x20 [(0x0200, 0x24), (0x0201, 0x10), (0x0010, 0xC0)])
    [0x01, 0x00, 0x00, 0xFD, 0x0202, 0xE2, 3] [] = true := by decide

/-- Vector G15: ASL A: old C not shifted in. -/
theorem test_asl_G15 : gives (before 0x41 0x00 0x00 0xFD 0x0200 0x21 [(0x0200, 0x0A)])
    [0x82, 0x00, 0x00, 0xFD, 0x0201, 0xA0, 2] [] = true := by decide

/-- Vector G21: LSR zpx: old C not shifted in. -/
theorem test_lsr_G21 : gives (before 0x00 0x01 0x00 0xFD 0x0200 0x21 [(0x0200, 0x56), (0x0201, 0x10), (0x0011, 0x80)])
    [0x00, 0x01, 0x00, 0xFD, 0x0202, 0x20, 6] [(0x0011, 0x40)] = true := by decide

/-- Vector G24: ROL zp: 00 with C=1 gives 01. -/
theorem test_rol_G24 : gives (before 0x00 0x00 0x00 0xFD 0x0200 0x21 [(0x0200, 0x26), (0x0201, 0x10), (0x0010, 0x00)])
    [0x00, 0x00, 0x00, 0xFD, 0x0202, 0x20, 5] [(0x0010, 0x01)] = true := by decide

/-- Vector G28: ROR abs. -/
theorem test_ror_G28 : gives (before 0x00 0x00 0x00 0xFD 0x0200 0x21 [(0x0200, 0x6E), (0x0201, 0x00), (0x0202, 0x30), (0x3000, 0x03)])
    [0x00, 0x00, 0x00, 0xFD, 0x0203, 0xA1, 6] [(0x3000, 0x81)] = true := by decide

/-- Vector M18: ind with pointer low byte FF: high byte from 0300, not 0400 (the formula quoted in §4.1). -/
theorem test_jmp_M18 : gives (before 0x00 0x00 0x00 0xFD 0x0200 0x20 [(0x0200, 0x6C), (0x0201, 0xFF), (0x0202, 0x03), (0x0300, 0x12), (0x03FF, 0x34), (0x0400, 0x99)])
    [0x00, 0x00, 0x00, 0xFD, 0x1234, 0x20, 5] [] = true := by decide

/-- Vector J6: JSR at SP=00: high byte at 0100, low byte at 01FF. -/
theorem test_jsr_J6 : gives (before 0x00 0x00 0x00 0x00 0x0200 0x20 [(0x0200, 0x20), (0x0201, 0x00), (0x0202, 0x30)])
    [0x00, 0x00, 0x00, 0xFE, 0x3000, 0x20, 6] [(0x0100, 0x02), (0x01FF, 0x02)] = true := by decide

/-- Vector J9: RTS with SP wrapping FE->00. -/
theorem test_rts_J9 : gives (before 0x00 0x00 0x00 0xFE 0x0200 0x20 [(0x0200, 0x60), (0x0100, 0x12), (0x01FF, 0x34)])
    [0x00, 0x00, 0x00, 0x00, 0x1235, 0x20, 6] [] = true := by decide

/-- Vector J15: BCC taken, offset 80 = -128: 0202-128=0182, cross. -/
theorem test_bcc_J15 : gives (before 0x00 0x00 0x00 0xFD 0x0200 0x20 [(0x0200, 0x90), (0x0201, 0x80)])
    [0x00, 0x00, 0x00, 0xFD, 0x0182, 0x20, 4] [] = true := by decide

/-- Vector J17: BCS not taken. -/
theorem test_bcs_J17 : gives (before 0x00 0x00 0x00 0xFD 0x0200 0x20 [(0x0200, 0xB0), (0x0201, 0x10)])
    [0x00, 0x00, 0x00, 0xFD, 0x0202, 0x20, 2] [] = true := by decide

/-- Vector J12: BEQ taken backward: 0202-5=01FD, page cross: cost 2+2. -/
theorem test_beq_J12 : gives (before 0x00 0x00 0x00 0xFD 0x0200 0x22 [(0x0200, 0xF0), (0x0201, 0xFB)])
    [0x00, 0x00, 0x00, 0xFD, 0x01FD, 0x22, 4] [] = true := by decide

/-- Vector J26: target wraps modulo 65536: FFFA+10=000A. -/
theorem test_bne_J26 : gives (before 0x00 0x00 0x00 0xFD 0xFFF8 0x20 [(0xFFF8, 0xD0), (0xFFF9, 0x10)])
    [0x00, 0x00, 0x00, 0xFD, 0x000A, 0x20, 4] [] = true := by decide

/-- Vector J18: BMI taken. -/
theorem test_bmi_J18 : gives (before 0x00 0x00 0x00 0xFD 0x0200 0xA0 [(0x0200, 0x30), (0x0201, 0x10)])
    [0x00, 0x00, 0x00, 0xFD, 0x0212, 0xA0, 3] [] = true := by decide

/-- Vector J19: BPL not taken. -/
theorem test_bpl_J19 : gives (before 0x00 0x00 0x00 0xFD 0x0200 0xA0 [(0x0200, 0x10), (0x0201, 0x10)])
    [0x00, 0x00, 0x00, 0xFD, 0x0202, 0xA0, 2] [] = true := by decide

/-- Vector J21: BVC taken. -/
theorem test_bvc_J21 : gives (before 0x00 0x00 0x00 0xFD 0x0200 0x20 [(0x0200, 0x50), (0x0201, 0x10)])
    [0x00, 0x00, 0x00, 0xFD, 0x0212, 0x20, 3] [] = true := by decide

/-- Vector J23: BVS not taken. -/
theorem test_bvs_J23 : gives (before 0x00 0x00 0x00 0xFD 0x0200 0x20 [(0x0200, 0x70), (0x0201, 0x10)])
    [0x00, 0x00, 0x00, 0xFD, 0x0202, 0x20, 2] [] = true := by decide

/-- Vector F1: CLC. -/
theorem test_clc_F1 : gives (before 0x00 0x00 0x00 0xFD 0x0200 0xFF [(0x0200, 0x18)])
    [0x00, 0x00, 0x00, 0xFD, 0x0201, 0xFE, 2] [] = true := by decide

/-- Vector F2: SEC. -/
theorem test_sec_F2 : gives (before 0x00 0x00 0x00 0xFD 0x0200 0x20 [(0x0200, 0x38)])
    [0x00, 0x00, 0x00, 0xFD, 0x0201, 0x21, 2] [] = true := by decide

/-- Vector F3: CLI. -/
theorem test_cli_F3 : gives (before 0x00 0x00 0x00 0xFD 0x0200 0xFF [(0x0200, 0x58)])
    [0x00, 0x00, 0x00, 0xFD, 0x0201, 0xFB, 2] [] = true := by decide

/-- Vector F4: SEI. -/
theorem test_sei_F4 : gives (before 0x00 0x00 0x00 0xFD 0x0200 0x20 [(0x0200, 0x78)])
    [0x00, 0x00, 0x00, 0xFD, 0x0201, 0x24, 2] [] = true := by decide

/-- Vector F5: CLV. -/
theorem test_clv_F5 : gives (before 0x00 0x00 0x00 0xFD 0x0200 0xFF [(0x0200, 0xB8)])
    [0x00, 0x00, 0x00, 0xFD, 0x0201, 0xBF, 2] [] = true := by decide

/-- Vector F6: CLD. -/
theorem test_cld_F6 : gives (before 0x00 0x00 0x00 0xFD 0x0200 0xFF [(0x0200, 0xD8)])
    [0x00, 0x00, 0x00, 0xFD, 0x0201, 0xF7, 2] [] = true := by decide

/-- Vector F7: SED. -/
theorem test_sed_F7 : gives (before 0x00 0x00 0x00 0xFD 0x0200 0x20 [(0x0200, 0xF8)])
    [0x00, 0x00, 0x00, 0xFD, 0x0201, 0x28, 2] [] = true := by decide

/-- Vector F8: NOP: only PC changes. -/
theorem test_nop_F8 : gives (before 0x01 0x02 0x03 0xFD 0x0200 0xE3 [(0x0200, 0xEA)])
    [0x01, 0x02, 0x03, 0xFD, 0x0201, 0xE3, 2] [] = true := by decide

/-- Vector F10: BRK with SP=01: pushes at 0101, 0100, 01FF; I already set. -/
theorem test_brk_F10 : gives (before 0x00 0x00 0x00 0x01 0x0200 0x24 [(0x0200, 0x00), (0x0201, 0xEA), (0xFFFE, 0x00), (0xFFFF, 0x30)])
    [0x00, 0x00, 0x00, 0xFE, 0x3000, 0x24, 7] [(0x0100, 0x02), (0x0101, 0x02), (0x01FF, 0x34)] = true := by decide

/-- Vector F14: RTI with SP wrapping. -/
theorem test_rti_F14 : gives (before 0x00 0x00 0x00 0xFE 0x0200 0x24 [(0x0200, 0x40), (0x0100, 0x34), (0x0101, 0x12), (0x01FF, 0xC1)])
    [0x00, 0x00, 0x00, 0x01, 0x1234, 0xE1, 6] [] = true := by decide

/-- Vector X9: absy, 3 bytes: no write. -/
theorem test_und_X9 : gives (before 0x00 0x77 0x01 0xFD 0x0200 0x20 [(0x0200, 0x9E), (0x0201, 0x00), (0x0202, 0x30)])
    [0x00, 0x77, 0x01, 0xFD, 0x0203, 0x20, 4] [] = true := by decide

/-- Vector X8: imm (would be SBC on silicon): A unchanged. -/
theorem test_und_X8 : gives (before 0x50 0x00 0x00 0xFD 0x0200 0x21 [(0x0200, 0xEB), (0x0201, 0x10)])
    [0x50, 0x00, 0x00, 0xFD, 0x0202, 0x21, 2] [] = true := by decide

/-! ## Events -/

/-- R300's example, with the reset vector 0x0200. -/
theorem test_reset_event : gives (withEvent .reset (before 0x55 0x66 0x77 0x12 0x9999 0xC3 [(0xFFFC, 0x00), (0xFFFD, 0x02)]))
    [0, 0, 0, 0xFD, 0x0200, 0xE3, 0] [] = true := by decide

/-- R243's example. -/
theorem test_irq_event : gives (withEvent .irq (before 0 0 0 0xFD 0x0203 0x21 [(0xFFFE, 0x00), (0xFFFF, 0x30)]))
    [0, 0, 0, 0xFA, 0x3000, 0x25, 0] [(0x01FD, 0x02), (0x01FC, 0x03), (0x01FB, 0x21)] = true := by decide

/-- R244's example. -/
theorem test_nmi_event : gives (withEvent .nmi (before 0 0 0 0xFD 0x0203 0x20 [(0xFFFA, 0x00), (0xFFFB, 0x40)]))
    [0, 0, 0, 0xFA, 0x4000, 0x24, 0] [(0x01FD, 0x02), (0x01FC, 0x03), (0x01FB, 0x20)] = true := by decide

/-- R302's scenario: `A9 05` at 0x0000, the reset vector being 0x0000; one step after reset. -/
theorem test_first_program : gives (State.reset.withFetchWord 16 0x05A9) [0x05, 0, 0, 0xFD, 2, 0x20, 2] [] = true := by decide

/-- The power-on state with the reset operation applied is the state the machine starts from, but for `PC` (R300; log
entry 4). -/
theorem test_reset_of_powerOn : (resetCpu State.powerOn).setPc 0x0000 = State.reset := rfl

/-- R69: the image starts at 0x0000. -/
theorem test_load_event : gives (withEvent (.load [0xA9, 0x05]) State.reset) (regs State.reset)
    [(0x0000, 0xA9), (0x0001, 0x05)] = true := by decide

/-- R306: `execute(5)` of NOPs (2 ticks each) issues three of them, in five steps: the goal, the three, the end of the loop. -/
theorem test_execute_event :
    let s := withEvent (.execute 5) (before 0 0 0 0xFD 0x0200 0x20 [(0x0200, 0xEA), (0x0201, 0xEA), (0x0202, 0xEA), (0x0203, 0xEA)])
    let t := got (step (got (step (got (step (got (step (got (step s)))))))))
    t.pc = 0x0203 ∧ t.clockticks = 6 ∧ t.clockgoal = 5 ∧ t.host.pending = [] := by decide

/-- R231: `UNDEF_DESC` is a parameter: with a table that makes 0xEB a one-byte opcode, the next instruction is at 0x0201. -/
theorem test_undef_parameter :
    let s := before 0 0 0 0xFD 0x0200 0x20 [(0x0200, 0xEB), (0x0201, 0x55)]
    gives s [0, 0, 0, 0xFD, 0x0202, 0x20, 2] [] = true ∧
    gives { s with params := { s.params with undefDesc := [(.imp, [0xEB])] } } [0, 0, 0, 0xFD, 0x0201, 0x20, 2] [] = true := by decide

/-- R153: with Z, N and V from the corrected byte, `99 + 01` gives Z=1 and N=0. -/
theorem test_decimal_parameter :
    let s := before 0x99 0 0 0xFD 0x0200 0x28 [(0x0200, 0x69), (0x0201, 0x01)]
    gives { s with params := { s.params with decFlags := .corrected } } [0x00, 0, 0, 0xFD, 0x0202, 0x2B, 3] [] = true := by decide

/-- R245: with `IRQ_RESPECTS_I` an `irq()` with I set changes nothing. -/
theorem test_irq_parameter :
    let s := before 0 0 0 0xFD 0x0203 0x24 []
    gives (withEvent .irq { s with params := { s.params with irqRespectsI := true } }) (regs s) [] = true := by decide

/-- R4: a counter of 8 bits wraps. -/
theorem test_width_parameter :
    let s := (before 0 0 0 0xFD 0x0200 0x20 [(0x0200, 0xEA)]).setTicks 0xFF
    gives { s with params := { s.params with cntWidth := some 8 } } [0, 0, 0, 0xFD, 0x0201, 0x20, 1] [] = true := by decide

/-- R258 with D33: three little-endian words are read. -/
theorem test_discover_event : (match step (withEvent (.discover 0xFFEA 0xFFEC 0xFFEE) (before 0 0 0 0xFD 0 0x20
      [(0xFFEA, 0x10), (0xFFEB, 0x02), (0xFFEC, 0x11), (0xFFED, 0x02), (0xFFEE, 0x12), (0xFFEF, 0x02)])) with
    | .next t => t.host.platform | _ => ⟨0, 0, 0⟩) = ⟨0x0210, 0x0211, 0x0212⟩ := by decide

/-- R273's example: a breakpoint at 0x0202 is in a three-byte instruction at 0x0200, one at 0x0203 is not. -/
theorem test_hit : hit ((before 0 0 0 0xFD 0x0200 0x20 [(0x0200, 0xAD)]).setCtl ⟨.idle, 0, false, [⟨0x0203, true⟩, ⟨0x0202, true⟩], false⟩) =
    some (1, ⟨0x0202, true⟩) := by decide

/-! ## Witnesses: the hypotheses of each statement can be met -/

/-- A state with the controller running: IX at 0x0010, the UART bytes at 0x0011 and 0x0012. -/
def running (c : Controller) (m : List (Addr × Byte)) : State :=
  ((before 0 0 0 0xFD 0x0200 0x20 m).setCtl c).setHost ⟨⟨0x0010, 0x0011, 0x0012⟩, [], [], [], false⟩

theorem witness_MemoryReturnsWhatWasWritten : (0xFFFE : Addr) ≠ 0xFFFF ∧
    (State.reset.write 0xFFFF 0xAB).read 0xFFFF = 0xAB ∧
    (State.reset.write 0xFFFF 0xAB).read 0xFFFE = Config.unwrittenByte 0xFFFE := ⟨by decide, by decide, rfl⟩

theorem witness_WordsAreReadLowByteFirst : (before 0 0 0 0 0 0 [(0xFFFF, 0x34), (0x0000, 0x12)]).read16 0xFFFF = 0x1234 := by decide

theorem witness_HostEventsChangeOnlyTheirPart :
    (withEvent (.load [0x01, 0x02]) State.reset).host.pending = [.load [0x01, 0x02]] ∧
    (0x0001 : Addr).toNat < [(0x01 : Byte), 0x02].length ∧ ¬ (0x0002 : Addr).toNat < [(0x01 : Byte), 0x02].length ∧
    (withEvent (.hostWrite 0xFFFF 0x01) State.reset).host.pending = [.hostWrite 0xFFFF 0x01] ∧
    (withEvent (.discover 0xFFEA 0xFFEC 0xFFEE) State.reset).host.pending = [.discover 0xFFEA 0xFFEC 0xFFEE] ∧
    (withEvent (.key 0x41) State.reset).host.pending = [.key 0x41] ∧ (withEvent .cancel State.reset).host.pending = [.cancel] ∧
    (withEvent (.hostStepping true) State.reset).host.pending = [.hostStepping true] ∧
    (withEvent .step State.reset).host.pending = [.step] := by decide

theorem witness_PushAndPullMoveOneByte : (0x0101 : Addr) ≠ stackAddr 0x00 ∧
    (push8 0x5A (before 0 0 0 0x00 0 0x20 [])).read (stackAddr 0x00) = 0x5A ∧
    (pull8 (before 0 0 0 0xFF 0 0x20 [(0x0100, 0x80)])).1 = 0x80 := by decide

theorem witness_PushedWordIsPulledBackFromPageOne : (before 0 0 0 0x00 0 0x20 []).sp = 0x00 ∧
    (pull16 (push16 0x1234 (before 0 0 0 0x00 0 0x20 []))).1 = 0x1234 := by decide

theorem witness_SetZNWritesTwoFlags : (Flag.c ≠ .z ∧ Flag.c ≠ .n) ∧ (setZN 0x00 State.reset).flag .z = true ∧
    (setZN 0x80 State.reset).flag .n = true ∧ (setZN 0x7F State.reset).flag .n = false := by decide

/-- R105, R109: the wraps. -/
theorem witness_IndexedAddressesWrap : effAddr (.zpx 0xFF) (before 0 1 2 0 0 0 []) = some 0x0000 ∧
    effAddr (.zpy 0xFF) (before 0 1 2 0 0 0 []) = some 0x0001 ∧ effAddr (.absx 0xFFFF) (before 0 1 2 0 0 0 []) = some 0x0000 ∧
    pageCross (.absx 0xFFFF) (before 0 1 2 0 0 0 []) = true ∧ pageCross (.absy 0x12FD) (before 0 1 2 0 0 0 []) = false := by decide

/-- R111, R112 at the page's end. -/
theorem witness_IndirectPointersWrapInTheirPage :
    effAddr (.ind 0x02FF) (before 0 0 0 0 0 0 [(0x02FF, 0x34), (0x0200, 0x12), (0x0300, 0x99)]) = some 0x1234 ∧
    effAddr (.indx 0xFE) (before 0 1 0 0 0 0 [(0x00FF, 0x34), (0x0000, 0x12), (0x0100, 0x99)]) = some 0x1234 := by decide

/-- The wraps of `(zp),Y`, and an operand of each kind: in the instruction, in `A`, in memory. -/
theorem witness_OperandsAreReadWhereTheModeSays :
    effAddr (.indy 0xFF) (before 0 0 1 0 0 0 [(0x00FF, 0xFF), (0x0000, 0x12), (0x0100, 0x99)]) = some 0x1300 ∧
    pageCross (.indy 0xFF) (before 0 0 1 0 0 0 [(0x00FF, 0xFF), (0x0000, 0x12)]) = true ∧
    effAddr (.zp 0xFF) State.reset = some 0x00FF ∧ effAddr (.imm 0xFF) State.reset = none ∧
    getValue (.absx 0xFFFF) (before 0 1 0 0 0 0 [(0x0000, 0x5A)]) = 0x5A ∧
    Operand.mode (.abs 0xFFFF) ∉ [.absx, .absy, .indy] := by decide

/-- An immediate operand whose byte lies past the top of memory (R103's corner case). -/
theorem witness_OperandsAreReadWhereTheModeSays_imm :
    let s := before 0 0 0 0 0xFFFF 0 [(0xFFFF, 0xA9), (0x0000, 0x05), (0x0001, 0xEA)]
    (Instr.lda (.imm 0x05)).operand.mode = .imm ∧
    decode s.params.undefDesc [s.read s.pc, s.read (s.pc + 1), s.read (s.pc + 2)] = .ok (.lda (.imm 0x05), [0xEA]) := ⟨rfl, rfl⟩

theorem witness_EveryOpcodeDecodes : (0xEB : Byte).toNat ∈ undefinedOpcodes ∧ (0xE9 : Byte).toNat ∉ undefinedOpcodes ∧
    descriptor defaultUndefDesc 0xEB = (.und, .imm) := by decide

/-- Documented instructions are described by every `UNDEF_DESC`, an undefined one by the default in its mode there. -/
theorem witness_DecodeInvertsEncode : ((Instr.lda (.absx 0x12F0)).wf = true ∧ (Instr.lda (.absx 0x12F0)).describedBy []) ∧
    ((Instr.bne 0xFE).wf = true ∧ (Instr.bne 0xFE).describedBy []) ∧ (Instr.brk.wf = true ∧ Instr.brk.describedBy []) ∧
    ((Instr.und 0xFF (.absx 0xFFFF)).wf = true ∧ (Instr.und 0xFF (.absx 0xFFFF)).describedBy defaultUndefDesc) := by
  refine ⟨⟨by decide, ?_⟩, ⟨by decide, ?_⟩, ⟨by decide, ?_⟩, ⟨by decide, ?_⟩⟩
  · intro op h; cases h
  · intro op h; cases h
  · intro op h; cases h
  · intro op h; cases h; decide

theorem witness_EncodeInvertsDecode : decode defaultUndefDesc [0x4C, 0x34, 0x12, 0xEA] = .ok (.jmp (.abs 0x1234), [0xEA]) := by rfl

/-- Both ways: a host that steps the core by itself, and a `step()` event. -/
theorem witness_StepRunsTheDecodedInstruction :
    let s := before 0 0 0 0xFD 0xFFFF 0x20 [(0xFFFF, 0x4C), (0x0000, 0x34), (0x0001, 0x12)]
    (s.host.pending = [] ∧ s.ctl.ctrl = .idle ∧ s.host.stepping = true) ∧ (withEvent .step s).host.pending = [.step] ∧
    decode s.params.undefDesc [s.read s.pc, s.read (s.pc + 1), s.read (s.pc + 2)] = .ok (.jmp (.abs 0x1234), []) ∧
    fetchInstr (withEvent .step s) = .jmp (.abs 0x1234) :=
  ⟨⟨rfl, rfl, rfl⟩, rfl, rfl, rfl⟩

/-- With nothing pending the machine goes on from the state itself. -/
theorem goesOnFrom_of_pending_nil {s : State} (h : s.host.pending = []) : goesOnFrom s s :=
  .inl ⟨rfl, fun e rest he => by rw [h] at he; cases he⟩

/-- While an event that may not happen yet waits, likewise. -/
theorem goesOnFrom_of_disabled {s : State} {e : Event} {rest : List Event} (h : s.host.pending = e :: rest)
    (he : enabled e s = false) : goesOnFrom s s :=
  .inl ⟨rfl, fun e' rest' h' => by rw [h] at h'; cases h'; exact he⟩

/-- Both runs, with nothing pending, a proceed event and a waiting key: stepping over a breakpoint (`at_bp`) with a key offered
and cancel set, and continuous with a key offered, busy
set, and nothing to stop at. -/
theorem witness_RunningControllerRunsTheDecodedInstruction :
    let p := running ⟨.steppingN, 1, true, [⟨0x0200, true⟩], true⟩ [(0x0200, 0xEA)]
    let s := p.setHost { p.host with keys := [0x41] }
    let q := running ⟨.continuous, 0, false, [⟨0x0201, true⟩], false⟩ [(0x0200, 0xEA), (0x0010, 0x02)]
    let r := q.setHost { q.host with keys := [0x41], pending := [.deliverKey 0x42] }
    (goesOnFrom s s ∧ goesOnFrom (withEvent .proceed s) s ∧ s.ctl.ctrl ≠ .idle ∧
      (s.ctl.ctrl = .continuous → s.ctl.cancel = false ∧ (s.host.keys = [] ∨ busy s = true)) ∧
      s.ctl.atBp = true ∧ fetchInstr s = .nop ∧
      exec .nop (s.setCtl { s.ctl with atBp := false }) = .next (got (exec .nop (s.setCtl { s.ctl with atBp := false })))) ∧
    (goesOnFrom r r ∧ r.ctl.ctrl ≠ .idle ∧
      (r.ctl.ctrl = .continuous → r.ctl.cancel = false ∧ (r.host.keys = [] ∨ busy r = true)) ∧
      hit r = none ∧ fetchInstr r = .nop ∧
      exec .nop (r.setCtl { r.ctl with atBp := false }) = .next (got (exec .nop (r.setCtl { r.ctl with atBp := false })))) := by
  refine ⟨⟨goesOnFrom_of_pending_nil rfl, .inr ⟨[], rfl, rfl⟩, by decide, by decide, by decide, by decide, rfl⟩,
    ⟨goesOnFrom_of_disabled rfl (by decide), by decide, by decide, by decide, by decide, rfl⟩⟩

theorem witness_PendingEventsHappenInOrder :
    (withEvent .irq State.reset).host.pending = [.irq] ∧ enabled .irq (withEvent .irq State.reset) = true ∧
    (withEvent .continueCmd (running ⟨.continuous, 0, false, [], false⟩ [])).host.pending = [.continueCmd] ∧
    enabled .continueCmd (withEvent .continueCmd (running ⟨.continuous, 0, false, [], false⟩ [])) = false ∧
    (State.reset.host.pending = [] ∧ State.reset.ctl.ctrl = .idle ∧ State.reset.host.stepping = false) ∧
    (withEvent .proceed State.reset).host.pending = [.proceed] ∧
    (before 0 0 0 0 0 0x20 []).host.stepping = true ∧ (before 0 0 0 0 0 0x20 []).ctl.ctrl = .idle ∧
    (running ⟨.continuous, 0, false, [], false⟩ []).ctl.ctrl ≠ .idle := by decide

/-- R270: after a halt on a breakpoint with nothing pending, the CPU stays stopped: the next step changes nothing. -/
theorem test_idle_is_stopped :
    let s := running ⟨.steppingN, 3, false, [⟨0x0200, true⟩], false⟩ [(0x0010, 0x00), (0x0200, 0xEA)]
    let t := got (step s)
    t.ctl.ctrl = .idle ∧ t.pc = 0x0200 ∧ step t = .next t := ⟨by decide, by decide, rfl⟩

theorem witness_EveryStepKeepsTheInvariant : Inv (withEvent .nmi State.reset) ∧
    step (withEvent .nmi State.reset) = .next (got (step (withEvent .nmi State.reset))) :=
  ⟨⟨by decide, by decide, by decide, by decide, fun n h => by cases h⟩, rfl⟩

theorem witness_ResetEventWritesOnlyRegisters : (withEvent .reset State.reset).host.pending = [.reset] := by decide

theorem witness_LoadsFillARegister : (Instr.lda (.imm 0x80)).wf = true ∧ (Instr.lda (.indy 0xFF)).wf = true ∧
    (Instr.ldx (.zpy 0xFF)).wf = true ∧ (Instr.ldy (.absx 0xFFFF)).wf = true := by decide

theorem witness_StoresWriteOneByte : (Instr.sta (.indy 0xFF)).wf = true ∧ (Instr.stx (.zpy 0xFF)).wf = true ∧
    (Instr.sty (.abs 0xFFFF)).wf = true := by decide

theorem witness_AdderFlagsAreTheSums : sumByte 0xFF 0x01 false = 0x00 ∧ sumOverflow 0x7F 0x01 false = true ∧
    sumOverflow 0x7F 0x00 false = false ∧ sumOverflow 0x80 0xFF false = true ∧ sumOverflow 0x80 0x00 true = false ∧
    Flag.d ∉ [.c, .z, .n, .v] := by decide

/-- Both modes, with the binary sum's flags. -/
theorem witness_AdcAddsWithCarry : (Instr.adc (.imm 0x01)).wf = true ∧ (before 0 0 0 0 0 0x28 []).flag .d = true ∧
    (before 0 0 0 0 0 0x20 []).flag .d = false ∧ State.reset.params.decFlags = .binary := by decide

/-- Both modes, with the binary sum's flags. -/
theorem witness_SbcSubtractsWithBorrow : (Instr.sbc (.imm 0x01)).wf = true ∧ (before 0 0 0 0 0 0x28 []).flag .d = true ∧
    (before 0 0 0 0 0 0x20 []).flag .d = false ∧ State.reset.params.decFlags = .binary := by decide

/-- Packed BCD operands at the ends of the range, one that is not BCD, and a decimal state whose flags follow the corrected
byte. -/
theorem witness_DecimalCorrectionsAreTheDigitFormulas :
    let s := { before 0x99 0 0 0 0 0x28 [] with params := { defaultParams with decFlags := .corrected } }
    (isBcd 0x99 ∧ isBcd 0x01 ∧ (decimalAdc .nibble 0x99 0x01 false).1 = 0x00 ∧ decimalSbc .nibble 0x00 0x01 true = 0x99 ∧
      ¬ isBcd 0x0F) ∧
    s.flag .d = true ∧ s.params.decFlags = .corrected ∧ exec (.adc (.imm 0x01)) s = .next (got (exec (.adc (.imm 0x01)) s)) ∧
    exec (.sbc (.imm 0x01)) s = .next (got (exec (.sbc (.imm 0x01)) s)) := by
  unfold isBcd
  exact ⟨by decide, by decide, by decide, rfl, rfl⟩

theorem witness_ComparesSetCarryZeroSign : (Instr.cmp (.imm 0x00)).wf = true ∧ (Instr.cpx (.abs 0xFFFF)).wf = true ∧
    (Instr.cpy (.zp 0xFF)).wf = true := by decide

theorem witness_IncAndDecChangeMemoryByOne : (Instr.inc (.zpx 0xFF)).wf = true ∧ (Instr.dec (.absx 0xFFFF)).wf = true ∧
    (Operand.zpx 0xFF) ≠ .acc := by decide

theorem witness_LogicIsBitwise : (Instr.and (.imm 0xFF)).wf = true ∧ (Instr.ora (.indx 0xFF)).wf = true ∧
    (Instr.eor (.absy 0xFFFF)).wf = true := by decide

theorem witness_BitTestReadsThreeFlags : (Instr.bit (.zp 0xFF)).wf = true ∧ (Instr.bit (.abs 0xFFFF)).wf = true := by decide

/-- Both kinds of operand, and a completed instruction. -/
theorem witness_ShiftsAndRotatesMoveOneBit : (Instr.asl .acc).wf = true ∧ (Instr.lsr (.absx 0xFFFF)).wf = true ∧
    (Instr.rol .acc).wf = true ∧ (Instr.ror (.zpx 0xFF)).wf = true ∧ (Operand.zpx 0xFF) ≠ .acc ∧
    exec (.asl .acc) State.reset = .next (got (exec (.asl .acc) State.reset)) ∧
    exec (.lsr .acc) State.reset = .next (got (exec (.lsr .acc) State.reset)) ∧
    exec (.rol .acc) State.reset = .next (got (exec (.rol .acc) State.reset)) ∧
    exec (.ror .acc) State.reset = .next (got (exec (.ror .acc) State.reset)) :=
  ⟨by decide, by decide, by decide, by decide, by decide, rfl, rfl, rfl, rfl⟩

theorem witness_JmpLoadsThePc : (Instr.jmp (.abs 0xFFFF)).wf = true ∧ (Instr.jmp (.ind 0x02FF)).wf = true ∧
    exec (.jmp (.abs 0xFFFF)) State.reset = .next (got (exec (.jmp (.abs 0xFFFF)) State.reset)) ∧
    exec (.jmp (.ind 0x02FF)) State.reset = .next (got (exec (.jmp (.ind 0x02FF)) State.reset)) :=
  ⟨by decide, by decide, rfl, rfl⟩

theorem witness_JsrPushesItsLastByte : (0x0150 : Addr) ≠ stackAddr 0x00 ∧ (0x0150 : Addr) ≠ stackAddr (0x00 - 1) := by decide

/-- The subroutine that does nothing, called with `SP` 0, where the pushes wrap. -/
theorem witness_JsrThenRtsReturns :
    let s := before 0 0 0 0x00 0xFFFE 0x20 []
    let t := got (exec (.jsr 0x3000) s)
    exec (.jsr 0x3000) s = .next t ∧ exec .rts t = .next (got (exec .rts t)) := ⟨rfl, rfl⟩

theorem witness_BranchesTestOneFlag : (before 0 0 0 0 0 0x21 []).flag .c = true ∧ (before 0 0 0 0 0 0x20 []).flag .c = false ∧
    gives (before 0 0 0 0 0xFFF0 0x20 [(0xFFF0, 0xD0), (0xFFF1, 0x10)]) [0, 0, 0, 0, 0x0002, 0x20, 4] [] = true := by decide

/-- The handler that only returns, entered with `SP` 1, where the pushes wrap. -/
theorem witness_BrkThenRtiResumes :
    let s := before 0 0 0 0x01 0x1000 0x20 []
    let t := got (exec .brk s)
    exec .brk s = .next t ∧ exec .rti t = .next (got (exec .rti t)) ∧ (Flag.d ≠ .b ∧ Flag.d ≠ .u) := ⟨rfl, rfl, by decide⟩

theorem witness_InterruptsEnterThroughTheirVectors :
    let m := { before 0 0 0 0 0 0x24 [] with params := { defaultParams with irqRespectsI := true } }
    ((withEvent .irq State.reset).host.pending = [.irq] ∧ (withEvent .irq State.reset).params.irqRespectsI = false) ∧
    ((withEvent .irq m).host.pending = [.irq] ∧ (withEvent .irq m).params.irqRespectsI = true ∧ (withEvent .irq m).flag .i = true) ∧
    (withEvent .nmi State.reset).host.pending = [.nmi] ∧ Flag.z ≠ .i := by decide

theorem witness_UndefinedOpcodesAreNoOps : (0x02 : Byte).toNat ∈ undefinedOpcodes ∧ (0xFF : Byte).toNat ∈ undefinedOpcodes := by
  decide

/-- NOP meets every clause of the writers' statements, ASL of memory the shifts' own. -/
theorem witness_RegistersHaveOnlyTheirWriters :
    exec .nop State.reset = .next (got (exec .nop State.reset)) ∧
    Instr.nop.mnemonic ∉ [.lda, .pla, .txa, .tya, .adc, .sbc, .and, .ora, .eor, .asl, .lsr, .rol, .ror] ∧
    Instr.nop.mnemonic ∉ [.ldx, .tax, .tsx, .inx, .dex] ∧ Instr.nop.mnemonic ∉ [.ldy, .tay, .iny, .dey] ∧
    Instr.nop.mnemonic ∉ [.txs, .pha, .php, .pla, .plp, .jsr, .rts, .brk, .rti] ∧
    exec (.asl (.zp 0x10)) State.reset = .next (got (exec (.asl (.zp 0x10)) State.reset)) ∧
    (Instr.asl (.zp 0x10)).mnemonic ∈ [.asl, .lsr, .rol, .ror] ∧ (Instr.asl (.zp 0x10)).operand ≠ .acc :=
  ⟨rfl, by decide, by decide, by decide, by decide, rfl, by decide, by decide⟩

theorem witness_FlagsHaveOnlyTheirWriters :
    exec .nop State.reset = .next (got (exec .nop State.reset)) ∧ Instr.nop.mnemonic ∉ [.plp, .rti] ∧
    Instr.nop.mnemonic ∉ [.adc, .sbc, .cmp, .cpx, .cpy, .asl, .lsr, .rol, .ror, .clc, .sec] ∧
    Instr.nop.mnemonic ∉ [.sei, .cli, .brk] ∧ Instr.nop.mnemonic ∉ [.sed, .cld] ∧
    Instr.nop.mnemonic ∉ [.adc, .sbc, .bit, .clv] ∧ Instr.nop.mnemonic ∈ [.sta, .nop] :=
  ⟨rfl, by decide, by decide, by decide, by decide, by decide, by decide⟩

theorem witness_OnlyStoresAndPushesChangeMemory :
    exec .nop State.reset = .next (got (exec .nop State.reset)) ∧
    Instr.nop.mnemonic ∉ [.sta, .stx, .sty, .inc, .dec, .asl, .lsr, .rol, .ror, .pha, .php, .jsr, .brk] ∧
    exec (.asl .acc) State.reset = .next (got (exec (.asl .acc) State.reset)) ∧ (Instr.asl .acc).operand = .acc :=
  ⟨rfl, by decide, rfl, by decide⟩

theorem witness_PcAdvancesByTheLength :
    exec .nop State.reset = .next (got (exec .nop State.reset)) ∧
    Instr.nop.mnemonic ∉ [.jmp, .jsr, .rts, .rti, .bcc, .bcs, .beq, .bne, .bmi, .bpl, .bvc, .bvs, .brk] := ⟨rfl, by decide⟩

theorem witness_ProgramsCannotSeeControllerOrTicks :
    exec .nop State.reset = .next (got (exec .nop State.reset)) ∧ (got (exec .nop State.reset)).clockticks = 2 := ⟨rfl, by decide⟩

/-- An instruction that costs, an opcode in the last place of a table, one past its row and one past its rows, and a count that
wraps. -/
theorem witness_EveryInstructionCostsTicks : exec .brk State.reset = .next (got (exec .brk State.reset)) ∧
    State.reset.clockticks < (got (exec .brk State.reset)).clockticks ∧
    (defaultCycles[(0xFF : Byte).toNat / 16]? = some (defaultCycles.getD 15 []) ∧ (defaultCycles.getD 15 [])[(0xFF : Byte).toNat % 16]? = some 4) ∧
    (([[7]] : List (List Nat))[(0x01 : Byte).toNat / 16]? = some [7] ∧ [7].length ≤ (0x01 : Byte).toNat % 16) ∧
    ([[7]] : List (List Nat)).length ≤ (0x10 : Byte).toNat / 16 ∧ wrapCount (some 8) 256 = 0 :=
  ⟨rfl, by decide, by decide, by decide, by decide, by decide⟩

/-- Each clause: the event, the loop before and at its goal, and a table whose costs are at least 1. -/
theorem witness_ExecuteReachesItsGoal :
    let s := withEvent (.execute 5) State.reset
    let l := withEvent .executing (State.reset.setGoal 1)
    let e := withEvent .executing State.reset
    (s.host.pending = [.execute 5] ∧ s.params.cntWidth = none ∧ 1 ≤ cycles s.params.cycles 0x00) ∧
    (l.host.pending = [.executing] ∧ l.clockticks < l.clockgoal) ∧ (e.host.pending = [.executing] ∧ e.clockgoal ≤ e.clockticks) := by
  decide

/-- Each clause: busy clear, busy set, a polled key delivered (with the UART byte apart from IX, and at IX itself, where busy
stays clear after it and a second key is left), a polled key kept. -/
theorem witness_KeysAreDeliveredOnlyWhenNotBusy :
    let s := withEvent (.deliverKey 0x41) (running .initial [(0x0010, 0x00)])
    let b := withEvent (.deliverKey 0x41) (running .initial [(0x0010, 0x02)])
    let r := running ⟨.continuous, 0, false, [], false⟩ [(0x0010, 0x00), (0x0200, 0xEA), (0xFFFE, 0x00), (0xFFFF, 0x03), (0x0300, 0xEA)]
    let k := r.setHost { r.host with keys := [0x41] }
    let q := (running ⟨.continuous, 0, false, [], false⟩ [(0x0010, 0x02), (0x0200, 0xEA)])
    let i := k.setHost { k.host with platform := ⟨0x0010, 0x0010, 0x0012⟩, keys := [0x41, 0x42], pending := [.continueCmd] }
    let u := deliverKey 0x41 (k.setHost { k.host with keys := [], pending := [] })
    let v := deliverKey 0x41 (i.setHost { i.host with keys := [], pending := [] })
    (s.host.pending = [.deliverKey 0x41] ∧ (s.read s.host.platform.ix).getLsbD 1 = false) ∧
    (b.host.pending = [.deliverKey 0x41] ∧ (b.read b.host.platform.ix).getLsbD 1 = true) ∧
    (goesOnFrom k k ∧ goesOnFrom (withEvent .proceed k) k ∧ k.ctl.ctrl = .continuous ∧ k.ctl.cancel = false ∧
      k.host.keys = [0x41] ∧ busy k = false ∧ busy u = true ∧ step u = .next (got (step u))) ∧
    (goesOnFrom i i ∧ i.ctl.ctrl = .continuous ∧ i.ctl.cancel = false ∧ i.host.keys = [0x41, 0x42] ∧ busy i = false ∧
      busy v = false ∧ step v = .next (got (step v))) ∧
    (goesOnFrom q q ∧ q.ctl.ctrl = .continuous ∧ busy q = true ∧ step q = .next (got (step q))) :=
  ⟨by decide, by decide,
    ⟨goesOnFrom_of_pending_nil rfl, .inr ⟨[], rfl, rfl⟩, by decide, by decide, by decide, by decide, by decide, rfl⟩,
    ⟨goesOnFrom_of_disabled rfl (by decide), by decide, by decide, by decide, by decide, by decide, rfl⟩,
    goesOnFrom_of_pending_nil rfl, by decide, by decide, rfl⟩

theorem witness_DrainOutputTakesTheWaitingByte :
    let s := withEvent .drainOutput (running .initial [(0x0010, 0x01), (0x0012, 0x41)])
    let r := withEvent .drainOutput (running .initial [(0x0010, 0xFE)])
    (s.host.pending = [.drainOutput] ∧ (s.read s.host.platform.ix).getLsbD 0 = true) ∧
    (r.host.pending = [.drainOutput] ∧ (r.read r.host.platform.ix).getLsbD 0 = false) := by decide

/-- A range that wraps: a two-byte instruction at 0xFFFF covers 0x0000, and 0x0001 is past it. -/
theorem witness_HitIsTheFirstContainingBreakpoint :
    let s := (before 0 0 0 0 0xFFFF 0x20 [(0xFFFF, 0xA9)]).setCtl ⟨.idle, 0, false, [⟨0x0000, false⟩, ⟨0x0001, true⟩, ⟨0x0000, true⟩], false⟩
    hit s = some (2, ⟨0x0000, true⟩) ∧ hit State.reset = none ∧ covers s ⟨0x0000, true⟩ := by
  refine ⟨by decide, by decide, ?_⟩
  exact ⟨rfl, 1, by decide, by decide⟩

/-- Each command in `Idle`, a table with and without a slot left, and a command outside `Idle`. -/
theorem witness_CommandsInIdleEditTheController :
    let f := { State.reset with params := { defaultParams with bpCapacity := some 0 } }
    let r := withEvent (.addBp 0xFFFF) (running ⟨.continuous, 0, false, [], false⟩ [])
    ((withEvent (.addBp 0xFFFF) State.reset).host.pending = [.addBp 0xFFFF] ∧
      (withEvent (.removeBp 0xFFFF) State.reset).host.pending = [.removeBp 0xFFFF] ∧
      (withEvent (.stepCmd 1) State.reset).host.pending = [.stepCmd 1] ∧
      (withEvent (.stepCmd 0) State.reset).host.pending = [.stepCmd 0] ∧
      (withEvent .continueCmd State.reset).host.pending = [.continueCmd]) ∧
    (withEvent (.stepCmd 1) State.reset).ctl.ctrl = .idle ∧ (1 : Nat) ≠ 0 ∧ State.reset.params.bpCapacity = none ∧
    (f.params.bpCapacity = some 0 ∧ 0 ≤ f.ctl.bps.length) ∧
    [(⟨0xFFFF, true⟩ : Breakpoint)][0]? = some ⟨0xFFFF, true⟩ ∧
    (r.host.pending = [.addBp 0xFFFF] ∧ r.ctl.ctrl ≠ .idle) := by decide

/-- Cancel with nothing pending; a breakpoint while a command waits, and by a proceed event. -/
theorem witness_CancelAndBreakpointsHaltBeforeExecuting :
    let c := running ⟨.continuous, 0, false, [], true⟩ []
    let s := withEvent .continueCmd (running ⟨.steppingN, 3, false, [⟨0x0200, true⟩], true⟩ [(0x0010, 0x00), (0x0200, 0xEA)])
    let k := running ⟨.continuous, 0, false, [⟨0x0200, true⟩], false⟩ [(0x0010, 0x00), (0x0200, 0xEA)]
    (goesOnFrom c c ∧ c.ctl.ctrl = .continuous ∧ c.ctl.cancel = true) ∧
    (goesOnFrom s s ∧ s.ctl.ctrl ≠ .idle ∧
      (s.ctl.ctrl = .continuous → s.ctl.cancel = false ∧ (s.host.keys = [] ∨ busy s = true)) ∧ s.ctl.atBp = false ∧ hit s = some (0, ⟨0x0200, true⟩)) ∧
    (goesOnFrom (withEvent .proceed k) k ∧ k.ctl.ctrl ≠ .idle ∧
      (k.ctl.ctrl = .continuous → k.ctl.cancel = false ∧ (k.host.keys = [] ∨ busy k = true)) ∧ k.ctl.atBp = false ∧ hit k = some (0, ⟨0x0200, true⟩)) :=
  ⟨⟨goesOnFrom_of_pending_nil rfl, by decide, by decide⟩,
    ⟨goesOnFrom_of_disabled rfl (by decide), by decide, by decide, by decide, by decide⟩,
    ⟨.inr ⟨[], rfl, rfl⟩, by decide, by decide, by decide, by decide⟩⟩

/-- Each clause: both bits set, bit 6 alone, the last and a later count, a continuous run. -/
theorem witness_IxBitsAndCountEndARun :
    let e := running ⟨.continuous, 0, false, [], false⟩ [(0x0010, 0xC0)]
    let r := running ⟨.continuous, 0, false, [], false⟩ [(0x0010, 0x40)]
    let l := running ⟨.steppingN, 1, false, [], false⟩ [(0x0010, 0x3F)]
    let m := running ⟨.steppingN, 2, false, [], false⟩ [(0x0010, 0x00)]
    let c := running ⟨.continuous, 0, false, [], false⟩ [(0x0010, 0x00)]
    ((e.read e.host.platform.ix).getLsbD 7 = true) ∧
    ((r.read r.host.platform.ix).getLsbD 7 = false ∧ (r.read r.host.platform.ix).getLsbD 6 = true) ∧
    ((l.read l.host.platform.ix).getLsbD 7 = false ∧ (l.read l.host.platform.ix).getLsbD 6 = false ∧ l.ctl.ctrl = .steppingN ∧
      l.ctl.remaining = 1) ∧
    ((m.read m.host.platform.ix).getLsbD 7 = false ∧ (m.read m.host.platform.ix).getLsbD 6 = false ∧ m.ctl.ctrl = .steppingN ∧
      1 < m.ctl.remaining) ∧
    ((c.read c.host.platform.ix).getLsbD 7 = false ∧ (c.read c.host.platform.ix).getLsbD 6 = false ∧ c.ctl.ctrl = .continuous) := by
  decide

end Sys2Proof.Tests
end

section
/-! SUPPORT. The scope's statements (00_scope R7, R8): every way the machine goes on and every event has a successor, and which
events may happen when. -/

namespace Sys2Proof.Machine
open Sys2Proof.Claims

/-- An iteration halts before an instruction or runs one, so it has a successor (R276). -/
theorem iterate_total (s : State) : ∃ t, iterate s = .next t := by
  unfold iterate
  split
  case isTrue => exact ⟨_, rfl⟩
  case isFalse =>
    split
    case h_1 => exact ⟨_, rfl⟩
    case h_2 =>
      obtain ⟨t, ht⟩ := cpuStep_next ((pollKey s).setCtl { (pollKey s).ctl with atBp := false })
      exact ⟨afterStep t, by rw [ht]⟩

/-- The machine going on has a successor: in `Idle` the same state or a core step (R270, R283), else an iteration. -/
theorem proceed_total (s : State) : ∃ t, proceed s = .next t := by
  by_cases hidle : s.ctl.ctrl = .idle
  · rw [proceed_of_idle hidle]
    split
    · exact cpuStep_next s
    · exact ⟨s, rfl⟩
  · rw [proceed_of_running hidle]
    exact iterate_total s

/-- A turn of `execute`'s loop has a successor (R306). -/
theorem executeTurn_total (s : State) : ∃ t, executeTurn s = .next t := by
  unfold executeTurn
  split
  · exact cpuStep_next _
  · exact ⟨s, rfl⟩

/-- Every event has a successor, enabled or not: three of them run the core, the others are updates of the state (R8). -/
theorem fire_total (e : Event) (s : State) : ∃ t, fire e s = .next t := by
  cases e with
  | step => exact cpuStep_next s
  | proceed => exact proceed_total s
  | executing => exact executeTurn_total s
  | _ => exact ⟨_, rfl⟩

/-- Only a key to deliver waits for busy, only a controller command waits for `Idle` (R259, R270). -/
theorem enabled_iff (e : Event) (s : State) :
    enabled e s = true ↔ (∀ b, e = .deliverKey b → busy s = false) ∧ (isCommand e → s.ctl.ctrl = .idle) := by
  cases e <;> simp [enabled, isCommand]

/-- A proceed event is the machine going on without it (log entry 6). -/
theorem step_of_proceed {s : State} {rest : List Event} (h : s.host.pending = .proceed :: rest) :
    step s = proceed (s.setHost { s.host with pending := rest }) :=
  step_of_enabled h rfl

/-- Settles O17: the step is the next event's or the machine's own going on, and each has a successor. -/
theorem everyStepHasASuccessor : Obligations.EveryStepHasASuccessor := by
  intro s
  cases hp : s.host.pending with
  | nil =>
    rw [step_of_pending_nil hp]
    exact proceed_total s
  | cons e rest =>
    cases he : enabled e s with
    | true =>
      rw [step_of_enabled hp he]
      exact fire_total e _
    | false =>
      rw [step_of_disabled hp he]
      exact proceed_total s

/-- Settles O16, by the lemmas that say what a step is by what is pending and what the controller does. -/
theorem pendingEventsHappenInOrder : Obligations.PendingEventsHappenInOrder :=
  ⟨fun _ _ _ hp => ⟨step_of_enabled hp, step_of_disabled hp⟩,
    fun _ hp => step_of_pending_nil hp,
    fun _ _ hp => step_of_proceed hp,
    fun _ => ⟨proceed_of_running,
      fun hidle hoff => by simp [proceed_of_idle hidle, hoff],
      fun hidle hon => by simp [proceed_of_idle hidle, hon]⟩,
    fun s e => enabled_iff e s⟩

end Sys2Proof.Machine
end

section
/-! SUPPORT. What each instruction does, said once: the rule of its mnemonic and its extra cost as functions of the instruction,
and that `exec` is the fetch, that rule and the ticks (70_reset_and_hazards R305). -/

namespace Sys2Proof.Machine

/-- A branch's rule when its condition is `taken` (R193). -/
def branchTo (off : Byte) (taken : Bool) (t : State) : State := if taken then t.setPc (branchTarget off t) else t

/-- The rule of an instruction's mnemonic, the part of a step that is its own (R305): it runs after the fetch and before the
cost. `exec_eq_perform` ties it to `exec`. -/
def ruleOf : Instr → State → State
  | .lda o, t => setZN (getValue o t) (t.setA (getValue o t))
  | .ldx o, t => setZN (getValue o t) (t.setX (getValue o t))
  | .ldy o, t => setZN (getValue o t) (t.setY (getValue o t))
  | .sta o, t => putValue o t.a t
  | .stx o, t => putValue o t.x t
  | .sty o, t => putValue o t.y t
  | .tax, t => setZN t.a (t.setX t.a)
  | .tay, t => setZN t.a (t.setY t.a)
  | .txa, t => setZN t.x (t.setA t.x)
  | .tya, t => setZN t.y (t.setA t.y)
  | .tsx, t => setZN t.sp (t.setX t.sp)
  | .txs, t => t.setSp t.x
  | .pha, t => push8 t.a t
  | .php, t => push8 (t.p ||| 0x30) t
  | .pla, t => setZN (pull8 t).1 ((pull8 t).2.setA (pull8 t).1)
  | .plp, t => (pull8 t).2.setP (pulledStatus (pull8 t).1)
  | .adc o, t => adcWith (getValue o t) t
  | .sbc o, t => sbcWith (getValue o t) t
  | .cmp o, t => compare t.a (getValue o t) t
  | .cpx o, t => compare t.x (getValue o t) t
  | .cpy o, t => compare t.y (getValue o t) t
  | .inc o, t => setZN (getValue o t + 1) (putValue o (getValue o t + 1) t)
  | .dec o, t => setZN (getValue o t - 1) (putValue o (getValue o t - 1) t)
  | .inx, t => setZN (t.x + 1) (t.setX (t.x + 1))
  | .iny, t => setZN (t.y + 1) (t.setY (t.y + 1))
  | .dex, t => setZN (t.x - 1) (t.setX (t.x - 1))
  | .dey, t => setZN (t.y - 1) (t.setY (t.y - 1))
  | .and o, t => setZN (t.a &&& getValue o t) (t.setA (t.a &&& getValue o t))
  | .ora o, t => setZN (t.a ||| getValue o t) (t.setA (t.a ||| getValue o t))
  | .eor o, t => setZN (t.a ^^^ getValue o t) (t.setA (t.a ^^^ getValue o t))
  | .bit o, t => bitTest (getValue o t) t
  | .asl o, t => shiftTo o (getValue o t <<< 1) ((getValue o t).getLsbD 7) t
  | .lsr o, t => shiftTo o (getValue o t >>> 1) ((getValue o t).getLsbD 0) t
  | .rol o, t => shiftTo o ((getValue o t <<< 1) ||| carryAt 0 t) ((getValue o t).getLsbD 7) t
  | .ror o, t => shiftTo o ((getValue o t >>> 1) ||| carryAt 7 t) ((getValue o t).getLsbD 0) t
  | .jmp o, t => t.setPc ((effAddr o t).getD t.pc)
  | .jsr w, t => (push16 (t.pc - 1) t).setPc w
  | .rts, t => (pull16 t).2.setPc ((pull16 t).1 + 1)
  | .bcc off, t => branchTo off (!t.flag .c) t
  | .bcs off, t => branchTo off (t.flag .c) t
  | .beq off, t => branchTo off (t.flag .z) t
  | .bne off, t => branchTo off (!t.flag .z) t
  | .bmi off, t => branchTo off (t.flag .n) t
  | .bpl off, t => branchTo off (!t.flag .n) t
  | .bvc off, t => branchTo off (!t.flag .v) t
  | .bvs off, t => branchTo off (t.flag .v) t
  | .clc, t => t.setFlag .c false
  | .sec, t => t.setFlag .c true
  | .cli, t => t.setFlag .i false
  | .sei, t => t.setFlag .i true
  | .clv, t => t.setFlag .v false
  | .cld, t => t.setFlag .d false
  | .sed, t => t.setFlag .d true
  | .nop, t => t
  | .brk, t => trapEnter Config.vecIrq true (t.setPc (t.pc + 1))
  | .rti, t => trapReturn t
  | .und _ _, t => t

/-- The cost an instruction pays beside its base cost (R313, R314); `exec_eq_perform` ties it to `exec`. -/
def extraOf : Instr → State → Nat
  | .adc _, t | .sbc _, t => decimalExtra t
  | .bcc off, t => branchExtra (!t.flag .c) off t
  | .bcs off, t => branchExtra (t.flag .c) off t
  | .beq off, t => branchExtra (t.flag .z) off t
  | .bne off, t => branchExtra (!t.flag .z) off t
  | .bmi off, t => branchExtra (t.flag .n) off t
  | .bpl off, t => branchExtra (!t.flag .n) off t
  | .bvc off, t => branchExtra (!t.flag .v) off t
  | .bvs off, t => branchExtra (t.flag .v) off t
  | _, _ => 0

/-- What `exec` does, said once: it performs the instruction's rule and pays its extra cost (R305). -/
theorem exec_eq_perform (i : Instr) (s : State) : exec i s = perform i (ruleOf i) (extraOf i) s := by
  cases i
  case jmp o => cases o <;> rfl
  all_goals rfl

/-- Everything an instruction that completes can do: after the fetch its rule, then the ticks. -/
theorem exec_next {i : Instr} {s t : State} (h : exec i s = .next t) :
    t = tick (baseCost i s + extraOf i (fetched i.length s)) (ruleOf i (fetched i.length s)) :=
  (perform_next s ((exec_eq_perform i s).symm.trans h)).2

end Sys2Proof.Machine
end

section
/-! SUPPORT. What the shared operations of the rules leave alone: the adder in both modes, the shifts, BIT, a branch, a return
from a trap. -/

namespace Sys2Proof.Machine

variable (s : State)

/-- ADC writes `A` and the flags of an addition, in both modes (R151). -/
theorem adcWith_eq (m : Byte) : ∃ r c v, adcWith m s = (resultFlags s.a m r c s).setA v := by
  unfold adcWith
  split <;> exact ⟨_, _, _, rfl⟩

/-- SBC writes `A` and the flags of an addition of the complement, in both modes (R152). -/
theorem sbcWith_eq (m : Byte) : ∃ r c v, sbcWith m s = (resultFlags s.a (m ^^^ 0xFF) r c s).setA v := by
  unfold sbcWith
  split <;> exact ⟨_, _, _, rfl⟩

/-- A branch writes `PC` only, taken or not (R193). -/
theorem branchTo_eq (off : Byte) (taken : Bool) : ∃ w, branchTo off taken s = s.setPc w := by
  cases taken
  · exact ⟨s.pc, rfl⟩
  · exact ⟨branchTarget off s, rfl⟩

@[simp] theorem adcWith_fields (m : Byte) :
    (adcWith m s).x = s.x ∧ (adcWith m s).y = s.y ∧ (adcWith m s).sp = s.sp ∧ (adcWith m s).pc = s.pc ∧
    (adcWith m s).mem = s.mem ∧ (adcWith m s).clockticks = s.clockticks ∧ (adcWith m s).clockgoal = s.clockgoal ∧
    (adcWith m s).ctl = s.ctl ∧ (adcWith m s).host = s.host ∧ (adcWith m s).params = s.params := by
  obtain ⟨r, c, v, h⟩ := adcWith_eq s m
  simp [h]

@[simp] theorem sbcWith_fields (m : Byte) :
    (sbcWith m s).x = s.x ∧ (sbcWith m s).y = s.y ∧ (sbcWith m s).sp = s.sp ∧ (sbcWith m s).pc = s.pc ∧
    (sbcWith m s).mem = s.mem ∧ (sbcWith m s).clockticks = s.clockticks ∧ (sbcWith m s).clockgoal = s.clockgoal ∧
    (sbcWith m s).ctl = s.ctl ∧ (sbcWith m s).host = s.host ∧ (sbcWith m s).params = s.params := by
  obtain ⟨r, c, v, h⟩ := sbcWith_eq s m
  simp [h]

@[simp] theorem branchTo_fields (off : Byte) (taken : Bool) :
    (branchTo off taken s).a = s.a ∧ (branchTo off taken s).x = s.x ∧ (branchTo off taken s).y = s.y ∧
    (branchTo off taken s).sp = s.sp ∧ (branchTo off taken s).p = s.p ∧ (branchTo off taken s).mem = s.mem ∧
    (branchTo off taken s).clockticks = s.clockticks ∧ (branchTo off taken s).clockgoal = s.clockgoal ∧
    (branchTo off taken s).ctl = s.ctl ∧ (branchTo off taken s).host = s.host ∧
    (branchTo off taken s).params = s.params := by
  obtain ⟨w, h⟩ := branchTo_eq s off taken
  simp [h]

/-- ADC's flags are C, Z, V and N. -/
theorem adcWith_flag {m : Byte} {f : Flag} (h : f ∉ [.c, .z, .v, .n]) : (adcWith m s).flag f = s.flag f := by
  obtain ⟨r, c, v, e⟩ := adcWith_eq s m
  simp_all [resultFlags_flag]

/-- SBC's flags are C, Z, V and N. -/
theorem sbcWith_flag {m : Byte} {f : Flag} (h : f ∉ [.c, .z, .v, .n]) : (sbcWith m s).flag f = s.flag f := by
  obtain ⟨r, c, v, e⟩ := sbcWith_eq s m
  simp_all [resultFlags_flag]

@[simp] theorem branchTo_flag (off : Byte) (taken : Bool) (f : Flag) : (branchTo off taken s).flag f = s.flag f := by
  obtain ⟨w, h⟩ := branchTo_eq s off taken
  simp [h]

@[simp] theorem bitTest_fields (m : Byte) :
    (bitTest m s).a = s.a ∧ (bitTest m s).x = s.x ∧ (bitTest m s).y = s.y ∧ (bitTest m s).sp = s.sp ∧
    (bitTest m s).pc = s.pc ∧ (bitTest m s).mem = s.mem ∧ (bitTest m s).clockticks = s.clockticks ∧
    (bitTest m s).clockgoal = s.clockgoal ∧ (bitTest m s).ctl = s.ctl ∧ (bitTest m s).host = s.host ∧
    (bitTest m s).params = s.params := by
  simp [bitTest]

/-- A shift writes its operand's place and flags: `A` in mode acc only (R174 to R177). -/
@[simp] theorem shiftTo_fields (o : Operand) (r : Byte) (out : Bool) :
    (shiftTo o r out s).a = (if o = .acc then r else s.a) ∧ (shiftTo o r out s).x = s.x ∧
    (shiftTo o r out s).y = s.y ∧ (shiftTo o r out s).sp = s.sp ∧ (shiftTo o r out s).pc = s.pc ∧
    (shiftTo o r out s).clockticks = s.clockticks ∧ (shiftTo o r out s).clockgoal = s.clockgoal ∧
    (shiftTo o r out s).ctl = s.ctl ∧ (shiftTo o r out s).host = s.host ∧ (shiftTo o r out s).params = s.params := by
  simp [shiftTo, putValue_a, putValue_fields]

theorem shiftTo_flag {o : Operand} {r : Byte} {out : Bool} {f : Flag} (h : f ∉ [.c, .z, .n]) :
    (shiftTo o r out s).flag f = s.flag f := by
  simp_all [shiftTo, setZN_flag]

theorem bitTest_flag {m : Byte} {f : Flag} (h : f ∉ [.z, .v, .n]) : (bitTest m s).flag f = s.flag f := by
  simp_all [bitTest]

theorem shiftTo_wf (o : Operand) (r : Byte) (out : Bool) (h : Memory.wf s.mem = true) :
    Memory.wf (shiftTo o r out s).mem = true :=
  putValue_wf (s.setFlag .c out) o r h

/-- A status byte loaded by PLP or RTI has the Constant flag set (R143, R219). -/
theorem getFlag_u_pulledStatus (b : Byte) : getFlag .u (pulledStatus b) = true := by
  simp [getFlag, pulledStatus, Flag.bit]

end Sys2Proof.Machine
end

section
/-! SUPPORT. What an instruction's rule may write: the flags by 10_state R24 to R31, the registers by R20 to R22, and nothing of
the counters, the controller, the host's side and the parameters. -/

namespace Sys2Proof.Machine

/-- The flags an instruction may write (R24 to R31). PLP and RTI load all of `P`. -/
def flagsWritten : Mnemonic → List Flag
  | .adc | .sbc => [.c, .z, .v, .n]
  | .cmp | .cpx | .cpy | .asl | .lsr | .rol | .ror => [.c, .z, .n]
  | .bit => [.z, .v, .n]
  | .lda | .ldx | .ldy | .tax | .tay | .txa | .tya | .tsx | .pla | .inc | .dec | .inx | .iny | .dex | .dey
  | .and | .ora | .eor => [.z, .n]
  | .clc | .sec => [.c]
  | .cli | .sei | .brk => [.i]
  | .cld | .sed => [.d]
  | .clv => [.v]
  | .plp | .rti => [.c, .z, .i, .d, .b, .u, .v, .n]
  | _ => []

/-- The counters, the controller, the host's side and the parameters are as before. -/
def systemKept (s t : State) : Prop :=
  t.clockticks = s.clockticks ∧ t.clockgoal = s.clockgoal ∧ t.ctl = s.ctl ∧ t.host = s.host ∧ t.params = s.params

variable (i : Instr) (s : State)

/-- An instruction writes no flag but those its row of `flagsWritten` lists. -/
theorem ruleOf_flag {f : Flag} (h : f ∉ flagsWritten i.mnemonic) : (ruleOf i s).flag f = s.flag f := by
  cases i
  case plp | rti => cases f <;> simp [flagsWritten, Instr.mnemonic] at h
  case adc => exact adcWith_flag s h
  case sbc => exact sbcWith_flag s h
  case asl | lsr | rol | ror => exact shiftTo_flag s h
  case bit => exact bitTest_flag s h
  case brk => simp_all [ruleOf, flagsWritten, Instr.mnemonic, trapEnter_flag]
  all_goals simp_all [ruleOf, flagsWritten, Instr.mnemonic, setZN_flag, compare_flag, pull8_eq, pull16_eq]

/-- No rule clears the Constant flag: only PLP and RTI write it, and they set it (R29). -/
theorem ruleOf_flag_u (h : s.flag .u = true) : (ruleOf i s).flag .u = true := by
  by_cases hw : Flag.u ∈ flagsWritten i.mnemonic
  · cases i <;> simp [flagsWritten, Instr.mnemonic] at hw
    case plp | rti => exact getFlag_u_pulledStatus _
  · rw [ruleOf_flag i s hw, h]

/-- `A` is written by the rules R20 lists. A rule that stores writes it in mode acc, so that mode is left to UND, which stores
nothing. -/
theorem ruleOf_a (h : i.mnemonic ∉ [.lda, .pla, .txa, .tya, .adc, .sbc, .and, .ora, .eor])
    (hacc : i.operand = .acc → i.mnemonic = .und) : (ruleOf i s).a = s.a := by
  cases i
  case lda | pla | txa | tya | adc | sbc | and | ora | eor => simp [Instr.mnemonic] at h
  case sta o | stx o | sty o | inc o | dec o | asl o | lsr o | rol o | ror o =>
    have ho : o ≠ .acc := fun e => by cases hacc e
    simp [ruleOf, putValue_a, ho]
  case brk => exact (trapEnter_fields _ _ _).1
  all_goals simp [ruleOf, pull8_eq, pull16_eq, trapReturn_eq]

theorem ruleOf_x (h : i.mnemonic ∉ [.ldx, .tax, .tsx, .inx, .dex]) : (ruleOf i s).x = s.x := by
  cases i
  case ldx | tax | tsx | inx | dex => simp [Instr.mnemonic] at h
  all_goals simp [ruleOf, putValue_fields, pull8_eq, pull16_eq, trapEnter_fields, trapReturn_eq]

theorem ruleOf_y (h : i.mnemonic ∉ [.ldy, .tay, .iny, .dey]) : (ruleOf i s).y = s.y := by
  cases i
  case ldy | tay | iny | dey => simp [Instr.mnemonic] at h
  all_goals simp [ruleOf, putValue_fields, pull8_eq, pull16_eq, trapEnter_fields, trapReturn_eq]

theorem ruleOf_sp (h : i.mnemonic ∉ [.txs, .pha, .php, .pla, .plp, .jsr, .rts, .brk, .rti]) : (ruleOf i s).sp = s.sp := by
  cases i
  case txs | pha | php | pla | plp | jsr | rts | brk | rti => simp [Instr.mnemonic] at h
  all_goals simp [ruleOf, putValue_fields]

/-- A rule that is no control transfer leaves `PC` where the fetch put it (R22). -/
theorem ruleOf_pc
    (h : i.mnemonic ∉ [.jmp, .jsr, .rts, .rti, .bcc, .bcs, .beq, .bne, .bmi, .bpl, .bvc, .bvs, .brk]) :
    (ruleOf i s).pc = s.pc := by
  cases i
  case jmp | jsr | rts | rti | bcc | bcs | beq | bne | bmi | bpl | bvc | bvs | brk => simp [Instr.mnemonic] at h
  all_goals simp [ruleOf, putValue_fields, pull8_eq]

theorem ruleOf_systemKept : systemKept s (ruleOf i s) := by
  unfold systemKept
  cases i <;> simp [ruleOf, putValue_fields, pull8_eq, pull16_eq, trapEnter_fields, trapReturn_eq]

/-- Every rule keeps memory canonical: the stores by `putValue`, the pushes and BRK by their own laws; no other writes it. -/
theorem ruleOf_wf (h : Memory.wf s.mem = true) : Memory.wf (ruleOf i s).mem = true := by
  cases i
  case sta | stx | sty | inc | dec => exact putValue_wf _ _ _ h
  case asl | lsr | rol | ror => exact shiftTo_wf _ _ _ _ h
  case pha | php => exact push8_wf _ _ h
  case jsr => exact push16_wf _ _ h
  case brk => exact trapEnter_wf _ _ _ h
  all_goals simpa [ruleOf, pull8_eq, pull16_eq, trapReturn_eq] using h

end Sys2Proof.Machine
end

section
/-! SUPPORT. The writers of each register and flag over all instructions, where `PC` is after one, `SetZN`, and the values after
reset (10_state R20 to R31, R40, R41; 60_exceptions R284). -/

namespace Sys2Proof.Machine
open Sys2Proof.Claims

/-- A flag the instruction's row does not list is what the fetch left: set if it is the Constant flag, else as before. -/
theorem exec_flag {i : Instr} {s t : State} {f : Flag} (h : exec i s = .next t) (hf : f ∉ flagsWritten i.mnemonic) :
    t.flag f = if f = .u then true else s.flag f := by
  rw [exec_next h, tick_flag, ruleOf_flag _ _ hf, fetched_flag]

/-- The Constant flag is 1 after every instruction (R29). -/
theorem exec_flag_u {i : Instr} {s t : State} (h : exec i s = .next t) : t.flag .u = true := by
  rw [exec_next h, tick_flag]
  exact ruleOf_flag_u i _ (by simp)

/-- Mode acc exists for the shifts and rotates, and for UND under some `UNDEF_DESC` (R84, R102). -/
theorem mnemonic_of_wf_acc {i : Instr} (hw : i.wf = true) (hacc : i.operand = .acc) :
    i.mnemonic ∈ [.asl, .lsr, .rol, .ror, .und] := by
  have hm : i.mnemonic.modes.contains .acc = true := by
    simp only [Instr.wf, Instr.modeLegal, hacc, Bool.and_eq_true] at hw
    exact hw.1
  revert hm
  cases i.mnemonic <;> simp [Mnemonic.modes]

theorem exec_a {i : Instr} {s t : State} (h : exec i s = .next t)
    (hi : i.mnemonic ∉ [.lda, .pla, .txa, .tya, .adc, .sbc, .and, .ora, .eor])
    (hacc : i.operand = .acc → i.mnemonic = .und) : t.a = s.a := by
  rw [exec_next h, tick_a, ruleOf_a i _ hi hacc, fetched_a]

/-- Settles O48: no rule but the listed ones writes the register, and neither the fetch nor the ticks do. -/
theorem registersHaveOnlyTheirWriters : Obligations.RegistersHaveOnlyTheirWriters := by
  intro i s t h
  refine ⟨fun hi => ?_, fun hi hacc => ?_, fun hi => ?_, fun hi => ?_, fun hi => ?_⟩
  · have hacc : i.operand = .acc → i.mnemonic = .und := fun ho => by
      have := mnemonic_of_wf_acc (wf_of_exec h) ho
      simp_all
    exact exec_a h (by simp_all) hacc
  · have hother : i.mnemonic ∉ [.lda, .pla, .txa, .tya, .adc, .sbc, .and, .ora, .eor] := by
      simp only [List.mem_cons, List.not_mem_nil, or_false] at hi
      rcases hi with e | e | e | e <;> simp [e]
    exact exec_a h hother (fun ho => absurd ho hacc)
  · rw [exec_next h, tick_x, ruleOf_x i _ hi, fetched_x]
  · rw [exec_next h, tick_y, ruleOf_y i _ hi, fetched_y]
  · rw [exec_next h, tick_sp, ruleOf_sp i _ hi, fetched_sp]

/-- The rows of `flagsWritten` read by flag: who writes C, I, D and V (R24, R26, R27, R30), that no one but PLP and RTI writes B
(R28), and who produces no result for Z and N (R25, R31). -/
theorem not_mem_flagsWritten {m : Mnemonic} (h : m ∉ [.plp, .rti]) :
    (m ∉ [.adc, .sbc, .cmp, .cpx, .cpy, .asl, .lsr, .rol, .ror, .clc, .sec] → .c ∉ flagsWritten m) ∧
    (m ∉ [.sei, .cli, .brk] → .i ∉ flagsWritten m) ∧
    (m ∉ [.sed, .cld] → .d ∉ flagsWritten m) ∧
    .b ∉ flagsWritten m ∧
    (m ∉ [.adc, .sbc, .bit, .clv] → .v ∉ flagsWritten m) ∧
    (m ∈ [.sta, .stx, .sty, .txs, .pha, .php, .jmp, .jsr, .rts, .bcc, .bcs, .beq, .bne, .bmi, .bpl, .bvc, .bvs, .clc, .sec,
      .cli, .sei, .clv, .cld, .sed, .nop, .brk, .und] → .z ∉ flagsWritten m ∧ .n ∉ flagsWritten m) := by
  revert h
  cases m <;> decide

/-- Settles O49: a flag whose table row does not list the instruction is as the fetch left it. -/
theorem flagsHaveOnlyTheirWriters : Obligations.FlagsHaveOnlyTheirWriters := by
  intro i s t h
  have kept {f : Flag} (hu : f ≠ .u) (hf : f ∉ flagsWritten i.mnemonic) : t.flag f = s.flag f := by
    rw [exec_flag h hf, if_neg hu]
  refine ⟨exec_flag_u h, fun hload => ?_⟩
  obtain ⟨hc, hi, hd, hb, hv, hzn⟩ := not_mem_flagsWritten hload
  exact ⟨fun hm => kept (by decide) (hc hm), fun hm => kept (by decide) (hi hm), fun hm => kept (by decide) (hd hm),
    kept (by decide) hb, fun hm => kept (by decide) (hv hm),
    fun hm => ⟨kept (by decide) (hzn hm).1, kept (by decide) (hzn hm).2⟩⟩

/-- Settles O51: the fetch moves `PC` past the instruction, and only a control transfer's rule moves it again. -/
theorem pcAdvancesByTheLength : Obligations.PcAdvancesByTheLength := by
  intro i s t h hi
  rw [exec_next h, tick_pc, ruleOf_pc i _ hi, fetched_pc, past]

/-- Settles O6, by the law that says what each flag is after `SetZN`. -/
theorem setZNWritesTwoFlags : Obligations.SetZNWritesTwoFlags := by
  intro v s
  refine ⟨⟨?_, ?_⟩, fun f hz hn => ?_, rfl⟩
  · simp [setZN_flag, BEq.beq]
  · simp [setZN_flag, BitVec.msb_eq_getLsbD_last]
  · simp [setZN_flag, hz, hn]

/-- Settles O19: memory is empty, the controller idle with count 0, the counters and the table unbounded. -/
theorem resetStateMeetsTheInvariant : Obligations.ResetStateMeetsTheInvariant :=
  ⟨State.reset_memory_wf, rfl, by decide, ⟨rfl, rfl⟩, fun n hn => by cases hn⟩

/-- Settles O20: the registers' values are `State.reset`'s own, and it is what the reset operation makes of the power-on state. -/
theorem resetStateHoldsTheSpecsValues : Obligations.ResetStateHoldsTheSpecsValues :=
  ⟨rfl, rfl, rfl, rfl, rfl, rfl, rfl, resetCpu_powerOn.symm, rfl⟩

end Sys2Proof.Machine
end

section
/-! SUPPORT. The invariant (Safety.lean) along every step: each operation keeps it, so the instructions, the events and the
controller's iterations, made of these, do. -/

namespace Sys2Proof.Machine

/-- From a state that meets the invariant the change leads to one that does, and no parameter changes. -/
def KeepsInv (s t : State) : Prop := Inv s → Inv t ∧ t.params = s.params

theorem KeepsInv.refl (s : State) : KeepsInv s s := fun h => ⟨h, rfl⟩

theorem KeepsInv.trans {s t u : State} (h : KeepsInv s t) (k : KeepsInv t u) : KeepsInv s u := fun hs =>
  have ⟨ht, hst⟩ := h hs
  have ⟨hu, htu⟩ := k ht
  ⟨hu, htu.trans hst⟩

/-- A change that keeps counters, controller and parameters has only memory's form and the Constant flag to keep. -/
theorem keepsInv_of_systemKept {s t : State} (hsys : systemKept s t) (hmem : Memory.wf s.mem = true → Memory.wf t.mem = true)
    (hu : s.flag .u = true → t.flag .u = true) : KeepsInv s t := by
  rintro ⟨hm, hf, hcount, hcounters, htable⟩
  obtain ⟨hticks, hgoal, hctl, -, hparams⟩ := hsys
  refine ⟨⟨hmem hm, hu hf, ?_, ?_, ?_⟩, hparams⟩
  · rwa [counterConsistent, hctl]
  · rwa [countersFit, hticks, hgoal, hparams]
  · rwa [tableFits, hctl, hparams]

section Operations
variable (s : State)

/-- The invariant does not speak of the host's side. -/
theorem keepsInv_setHost (h : HostSide) : KeepsInv s (s.setHost h) := fun hs => ⟨hs, rfl⟩

/-- A new controller state has the count and the table's length to keep. -/
theorem keepsInv_setCtl {s : State} {c : Controller} (hcount : counterConsistent s → counterConsistent (s.setCtl c))
    (htable : tableFits s → tableFits (s.setCtl c)) : KeepsInv s (s.setCtl c) := by
  rintro ⟨hm, hf, hc, hcounters, ht⟩
  exact ⟨⟨hm, hf, hcount hc, hcounters, htable ht⟩, rfl⟩

/-- A goal kept to the counters' width keeps the invariant (R4). -/
theorem keepsInv_setGoal (n : Nat) : KeepsInv s (s.setGoal (wrapCount s.params.cntWidth n)) := by
  rintro ⟨hm, hf, hcount, ⟨hticks, -⟩, htable⟩
  exact ⟨⟨hm, hf, hcount, ⟨hticks, (wrapCount_wrapCount _ _).symm⟩, htable⟩, rfl⟩

theorem keepsInv_tick (n : Nat) : KeepsInv s (tick n s) := by
  rintro ⟨hm, hf, hcount, ⟨-, hgoal⟩, htable⟩
  exact ⟨⟨hm, hf, hcount, ⟨(wrapCount_wrapCount _ _).symm, hgoal⟩, htable⟩, rfl⟩

theorem keepsInv_write (a : Addr) (v : Byte) : KeepsInv s (s.write a v) :=
  keepsInv_of_systemKept ⟨rfl, rfl, rfl, rfl, rfl⟩ (State.write_wf a v) id

theorem keepsInv_fetched (n : Nat) : KeepsInv s (fetched n s) :=
  keepsInv_of_systemKept ⟨rfl, rfl, rfl, rfl, rfl⟩ id (by simp)

theorem keepsInv_ruleOf (i : Instr) : KeepsInv s (ruleOf i s) :=
  keepsInv_of_systemKept (ruleOf_systemKept i s) (ruleOf_wf i s) (ruleOf_flag_u i s)

/-- Every instruction keeps the invariant: its fetch, its rule and the ticks do (R305). -/
theorem keepsInv_exec {i : Instr} {s t : State} (h : exec i s = .next t) : KeepsInv s t :=
  exec_next h ▸ (keepsInv_fetched s i.length).trans ((keepsInv_ruleOf _ i).trans (keepsInv_tick _ _))

theorem keepsInv_cpuStep {s t : State} (h : cpuStep s = .next t) : KeepsInv s t := keepsInv_exec h

theorem keepsInv_trapEnter (vec : Addr) (brk : Bool) : KeepsInv s (trapEnter vec brk s) := by
  obtain ⟨-, -, -, -, hsys⟩ := trapEnter_fields s vec brk
  exact keepsInv_of_systemKept hsys (trapEnter_wf s vec brk) (fun h => by simp [trapEnter_flag, h])

theorem keepsInv_irq : KeepsInv s (irq s) := by
  unfold irq
  split
  · exact .refl s
  · exact keepsInv_trapEnter s _ _

/-- Reset sets the Constant flag and touches neither memory nor counters nor controller (R300). -/
theorem keepsInv_resetCpu : KeepsInv s (resetCpu s) :=
  keepsInv_of_systemKept ⟨rfl, rfl, rfl, rfl, rfl⟩ id (fun _ => by simp [resetCpu])

theorem keepsInv_deliverKey (b : Byte) : KeepsInv s (deliverKey b s) :=
  (keepsInv_write s _ _).trans ((keepsInv_write _ _ _).trans (keepsInv_irq _))

theorem keepsInv_emit (o : Output) : KeepsInv s (emit o s) := keepsInv_setHost s _

theorem keepsInv_drainOutput : KeepsInv s (drainOutput s) := by
  unfold drainOutput
  split
  · exact (keepsInv_write s _ _).trans (keepsInv_emit _ _)
  · exact keepsInv_emit s _

/-- Loading an image keeps memory canonical: each byte goes to an address of the address space (R69). -/
theorem writeImage_wf (image : List Byte) (a : Nat) (m : List Host.Cell) (h : Memory.wf m = true) :
    Memory.wf (writeImage a image m) = true := by
  induction image generalizing a m with
  | nil => exact h
  | cons b rest ih =>
    unfold writeImage
    split
    case isTrue ha => exact ih _ _ (Memory.wf_write b ha h)
    case isFalse => exact h

theorem keepsInv_loadImage (image : List Byte) : KeepsInv s (loadImage image s) :=
  keepsInv_of_systemKept ⟨rfl, rfl, rfl, rfl, rfl⟩ (writeImage_wf image 0 s.mem) id

end Operations

section Controller
variable (s : State)

/-- An entry is appended only to a table that has a slot left (R271; log entry 20). -/
theorem keepsInv_addBp (addr : Addr) : KeepsInv s (addBp addr s) := by
  unfold addBp
  split
  case isTrue => exact .refl s
  case isFalse hfull =>
    refine keepsInv_setCtl id fun _ n hn => ?_
    have hslot : s.ctl.bps.length < n := Nat.lt_of_not_le fun hle => hfull (bpFull_iff.2 ⟨n, hn, hle⟩)
    simp only [State.setCtl_ctl, List.length_append, List.length_singleton]
    exact hslot

/-- Removal keeps every entry in its place (R272). -/
theorem keepsInv_removeBp (addr : Addr) : KeepsInv s (removeBp addr s) :=
  keepsInv_setCtl id fun h n hn => by simpa using h n hn

/-- A halt leaves `Idle` with count 0 (R276). -/
theorem keepsInv_halt (r : Report) : KeepsInv s (halt r s) := by
  have hidle : KeepsInv s (s.setCtl { s.ctl with ctrl := .idle, remaining := 0 }) :=
    keepsInv_setCtl (fun _ => by simp [counterConsistent]) id
  exact hidle.trans ((keepsInv_setHost _ { s.host with stepping := false }).trans (keepsInv_emit _ (.report r)))

/-- A positive count starts `SteppingN`; 0 starts nothing (R274). -/
theorem keepsInv_stepCmd (n : Nat) : KeepsInv s (stepCmd n s) := by
  unfold stepCmd
  split
  case isTrue => exact keepsInv_emit s _
  case isFalse hn => exact keepsInv_setCtl (fun _ => by simp [counterConsistent]; omega) id

/-- `continue_cmd` is accepted in `Idle`, where the count is already 0 (R275). -/
theorem keepsInv_continueCmd {s : State} (hidle : s.ctl.ctrl = .idle) : KeepsInv s (continueCmd s) :=
  keepsInv_setCtl (fun h => by simp_all [counterConsistent]) id

theorem keepsInv_pollKey : KeepsInv s (pollKey s) := by
  unfold pollKey
  split
  · split
    · exact .refl s
    · exact (keepsInv_setHost s _).trans (keepsInv_deliverKey _ _)
  · exact .refl s

/-- The count goes down by one in `SteppingN` and the run halts before it is 0 (R276). -/
theorem keepsInv_afterStep : KeepsInv s (afterStep s) := by
  unfold afterStep
  split
  · exact keepsInv_halt s _
  · split
    · exact keepsInv_halt s _
    · split
      case h_1 hctrl =>
        split
        · exact keepsInv_halt s _
        · exact keepsInv_setCtl (fun _ => by simp [counterConsistent, hctrl]; omega) id
      case h_2 => exact .refl s

theorem keepsInv_setAtBp (b : Bool) : KeepsInv s (s.setCtl { s.ctl with atBp := b }) := keepsInv_setCtl id id

/-- An iteration keeps the invariant: it halts, before or after the key, or runs one instruction (R276). -/
theorem keepsInv_iterate {s t : State} (h : iterate s = .next t) : KeepsInv s t := by
  unfold iterate at h
  split at h
  case isTrue =>
    cases h
    exact keepsInv_halt s _
  case isFalse =>
    split at h
    case h_1 =>
      cases h
      exact (keepsInv_pollKey s).trans ((keepsInv_setAtBp _ _).trans (keepsInv_halt _ _))
    case h_2 =>
      obtain ⟨u, hu⟩ := cpuStep_next ((pollKey s).setCtl { (pollKey s).ctl with atBp := false })
      rw [hu] at h
      cases h
      exact (keepsInv_pollKey s).trans
        ((keepsInv_setAtBp _ _).trans ((keepsInv_cpuStep hu).trans (keepsInv_afterStep u)))

theorem keepsInv_proceed {s t : State} (h : proceed s = .next t) : KeepsInv s t := by
  by_cases hidle : s.ctl.ctrl = .idle
  · rw [proceed_of_idle hidle] at h
    split at h
    · exact keepsInv_cpuStep h
    · cases h
      exact .refl s
  · rw [proceed_of_running hidle] at h
    exact keepsInv_iterate h

theorem keepsInv_execute (budget : Nat) : KeepsInv s (execute budget s) :=
  (keepsInv_setGoal s _).trans (keepsInv_setHost _ _)

theorem keepsInv_executeTurn {s t : State} (h : executeTurn s = .next t) : KeepsInv s t := by
  obtain ⟨-, hstep⟩ | ⟨-, rfl⟩ := executeTurn_next h
  · exact (keepsInv_setHost s _).trans (keepsInv_cpuStep hstep)
  · exact .refl t

/-- Whether an event may happen does not depend on the events after it. -/
theorem enabled_setPending (e : Event) (rest : List Event) :
    enabled e (s.setHost { s.host with pending := rest }) = enabled e s := by
  cases e <;> rfl

/-- Every event that may happen keeps the invariant. -/
theorem keepsInv_fire {e : Event} {s t : State} (he : enabled e s = true) (h : fire e s = .next t) : KeepsInv s t := by
  cases e
  case step => exact keepsInv_cpuStep h
  case proceed => exact keepsInv_proceed h
  case executing => exact keepsInv_executeTurn h
  all_goals cases h
  case hostStepping | key | discover => exact keepsInv_setHost s _
  case execute budget => exact keepsInv_execute s budget
  case reset => exact keepsInv_resetCpu s
  case irq => exact keepsInv_irq s
  case nmi => exact keepsInv_trapEnter s _ _
  case deliverKey b => exact keepsInv_deliverKey s b
  case drainOutput => exact keepsInv_drainOutput s
  case addBp addr => exact keepsInv_addBp s addr
  case removeBp addr => exact keepsInv_removeBp s addr
  case stepCmd n => exact keepsInv_stepCmd s n
  case continueCmd => exact keepsInv_continueCmd (of_decide_eq_true he)
  case cancel => exact keepsInv_setCtl id id
  case load image => exact keepsInv_loadImage s image
  case hostWrite addr v => exact keepsInv_write s addr v

end Controller

/-- A step keeps the invariant: it is the next event, taken off the list, or the machine going on (R7). -/
theorem keepsInv_step {s t : State} (h : step s = .next t) : KeepsInv s t := by
  cases hp : s.host.pending with
  | nil =>
    rw [step_of_pending_nil hp] at h
    exact keepsInv_proceed h
  | cons e rest =>
    cases he : enabled e s with
    | true =>
      rw [step_of_enabled hp he] at h
      exact (keepsInv_setHost s _).trans (keepsInv_fire ((enabled_setPending s e rest).trans he) h)
    | false =>
      rw [step_of_disabled hp he] at h
      exact keepsInv_proceed h

/-- Settles O18: every operation a step is made of keeps the invariant. -/
theorem everyStepKeepsTheInvariant : Obligations.EveryStepKeepsTheInvariant :=
  fun _ _ hs h => keepsInv_step h hs

end Sys2Proof.Machine
end

section
/-! SUPPORT. Memory and the stack as the statements need them (20_memory): a word's bytes, the byte a push or a pull moves, where
a pushed word lies, and that a pull gives it back. -/

namespace Sys2Proof.Machine
open Sys2Proof.Claims

variable (w a : Addr) (v : Byte) (s : State)

/-- A write changes the byte at its address and no other (R51). -/
theorem onlyByte_write : onlyByte a v s (s.write a v) :=
  ⟨by simp, fun q hq => by simp [hq]⟩

/-- Settles O1, by the law of a read after a write. -/
theorem memoryReturnsWhatWasWritten : Obligations.MemoryReturnsWhatWasWritten :=
  fun s a v => ⟨onlyByte_write a v s, rfl⟩

@[simp] theorem lo_read16 : lo (s.read16 a) = s.read a := lo_word16 _ _

@[simp] theorem hi_read16 : hi (s.read16 a) = s.read (a + 1) := hi_word16 _ _

@[simp] theorem hi_stackAddr (sp : Byte) : hi (stackAddr sp) = Config.stackPage := hi_word16 _ _

/-- Settles O2: the two bytes of the word read are those of its concatenation, and so is a stack address's high byte. -/
theorem wordsAreReadLowByteFirst : Obligations.WordsAreReadLowByteFirst :=
  ⟨fun s a => ⟨lo_read16 a s, hi_read16 a s, BitVec.toNat_add a 1⟩, rfl, rfl, rfl, hi_stackAddr⟩

/-- A push changes the byte `SP` names and no other (R58). -/
theorem onlyByte_push8 : onlyByte (stackAddr s.sp) v s (push8 v s) :=
  ⟨by simp, fun q hq => by simp [hq]⟩

/-- Settles O4: a push is one write and one decrement, a pull one increment and one read. -/
theorem pushAndPullMoveOneByte : Obligations.PushAndPullMoveOneByte :=
  ⟨fun v s => ⟨onlyByte_push8 v s, push8_sp s v, rfl⟩, fun _ => ⟨rfl, rfl⟩⟩

/-- The stack offset of a pushed word's low byte is one above the new `SP` (R60). -/
theorem push16_sp_add_one : (push16 w s).sp + 1 = s.sp - 1 := by
  rw [push16_sp]
  bv_omega

/-- Two increments undo the two decrements of a pushed word, also when they wrap (R60, R61). -/
theorem push16_sp_add_one_add_one : (push16 w s).sp + 1 + 1 = s.sp := by
  rw [push16_sp]
  bv_omega

/-- A pull after a push gives the word back and restores `SP` (R60, R61). -/
theorem pull16_push16 : pull16 (push16 w s) = (w, (push16 w s).setSp s.sp) := by
  rw [pull16_eq, push16_sp_add_one_add_one, push16_sp_add_one, push16_read_low, push16_read_high, word16_hi_lo]

/-- Settles O5: the bytes' places follow from the two decrements, the round trip from `pull16_push16`, the wrap from `SP` 0. -/
theorem pushedWordIsPulledBackFromPageOne : Obligations.PushedWordIsPulledBackFromPageOne := by
  refine ⟨fun w s => ⟨?low, ?high, ?word, ?sp⟩, stackAddr_toNat, fun w s hsp => ⟨?wrapHigh, ?wrapLow, ?wrapSp⟩⟩
  case low => rw [push16_sp_add_one, push16_read_low]
  case high =>
    have htwo : (push16 w s).sp + 2 = s.sp := (BitVec.add_assoc _ 1 1).symm.trans (push16_sp_add_one_add_one w s)
    rw [htwo, push16_read_high]
  case word => rw [pull16_push16]
  case sp => rw [pull16_push16, State.setSp_sp]
  case wrapHigh =>
    have hhigh := push16_read_high s w
    rwa [hsp] at hhigh
  case wrapLow =>
    have hlow := push16_read_low s w
    rwa [hsp] at hlow
  case wrapSp =>
    rw [push16_sp, hsp]
    rfl

end Sys2Proof.Machine
end

section
/-! SUPPORT. Which instructions change memory (20_memory R55, R56): the stores, the read-modify-writes and the pushes, and none
of them in mode acc. -/

namespace Sys2Proof.Machine
open Sys2Proof.Claims

variable {i : Instr} (s : State)

/-- A rule that neither stores nor pushes leaves memory alone. -/
theorem ruleOf_mem
    (h : i.mnemonic ∉ [.sta, .stx, .sty, .inc, .dec, .asl, .lsr, .rol, .ror, .pha, .php, .jsr, .brk]) :
    (ruleOf i s).mem = s.mem := by
  cases i
  case sta | stx | sty | inc | dec | asl | lsr | rol | ror | pha | php | jsr | brk => simp [Instr.mnemonic] at h
  all_goals simp [ruleOf, pull8_eq, pull16_eq, trapReturn_eq]

/-- A rule whose operand is the accumulator leaves memory alone: a store goes to `A` (R115), and no push has that operand. -/
theorem ruleOf_mem_of_acc (h : i.operand = .acc) : (ruleOf i s).mem = s.mem := by
  cases i
  case sta | stx | sty | inc | dec | asl | lsr | rol | ror =>
    cases h
    rfl
  case pha | php | jsr | brk => cases h
  all_goals exact ruleOf_mem s (by simp [Instr.mnemonic])

/-- Settles O50: the fetch and the ticks write no memory, and neither does the instruction's own rule. -/
theorem onlyStoresAndPushesChangeMemory : Obligations.OnlyStoresAndPushesChangeMemory := by
  intro i s t h hi q
  have hmem (u : State) : (ruleOf i u).mem = u.mem := hi.elim (ruleOf_mem u) (ruleOf_mem_of_acc u)
  rw [exec_next h, tick_read, State.read, hmem, fetched_mem, State.read]

end Sys2Proof.Machine
end

section
/-! SUPPORT. What an event that is next leads to, and what the host's own events change: a load (20_memory R69), a host write,
address discovery, a key, cancel, the host's stepping and a core step (60_exceptions R258, R261, R278, R279, R283). -/

namespace Sys2Proof.Machine
open Sys2Proof.Claims

/-- An event that may always happen leads where its effect does (R7). -/
theorem eventLeads_of_fire {e : Event} {post : State → State → Prop} (he : ∀ s, enabled e s = true)
    (hfire : ∀ s, ∃ t, fire e s = .next t ∧ post s t) : eventLeads e (fun _ => True) post := by
  intro s rest hp _
  obtain ⟨t, ht, hpost⟩ := hfire (s.setHost { s.host with pending := rest })
  exact ⟨t, (step_of_enabled hp (he s)).trans ht, hpost⟩

/-- Loading writes byte `i` of the image at `a + i` as far as the address space goes, and no other byte (R69; U16). -/
theorem lookup_writeImage (image : List Byte) (a : Nat) (m : List Host.Cell) {b : Nat} (hb : b < 65536) :
    Memory.lookup (writeImage a image m) b =
      if a ≤ b ∧ b < a + image.length then some (image.getD (b - a) 0) else Memory.lookup m b := by
  induction image generalizing a m with
  | nil => rw [writeImage, if_neg (by simp only [List.length_nil]; omega)]
  | cons v rest ih =>
    rw [List.length_cons]
    by_cases ha : a < 65536
    · rw [writeImage, if_pos ha, ih, Memory.lookup_write]
      obtain hlt | rfl | hgt := Nat.lt_trichotomy b a
      · rw [if_neg (by omega), if_neg (by omega), if_neg (by omega)]
      · rw [if_neg (by omega), if_pos rfl, if_pos (by omega), Nat.sub_self, List.getD_cons_zero]
      · have hinside : a + 1 ≤ b ∧ b < a + 1 + rest.length ↔ a ≤ b ∧ b < a + (rest.length + 1) := by omega
        have hindex : b - a = b - (a + 1) + 1 := by omega
        simp only [hinside, hindex, List.getD_cons_succ, if_neg (Nat.ne_of_gt hgt)]
    · rw [writeImage, if_neg ha, if_neg (by omega)]

/-- The bytes after a load (R69). -/
theorem loadImage_read (image : List Byte) (s : State) (q : Addr) :
    (loadImage image s).read q = if q.toNat < image.length then image.getD q.toNat 0 else s.read q := by
  rw [State.read, loadImage, State.setMem_mem, lookup_writeImage image 0 s.mem q.isLt]
  simp only [Nat.zero_le, true_and, Nat.zero_add, Nat.sub_zero]
  split <;> rfl

/-- An instruction changes neither the goal nor the controller nor the host's side nor the parameters (R285). -/
theorem exec_controllerKept {i : Instr} {s t : State} (h : exec i s = .next t) :
    t.clockgoal = s.clockgoal ∧ t.ctl = s.ctl ∧ t.host = s.host ∧ t.params = s.params := by
  obtain ⟨-, hkept⟩ := ruleOf_systemKept i (fetched i.length s)
  rw [exec_next h]
  exact hkept

/-- Settles O3: each event may always happen; a load is `loadImage_read`, a core step is an instruction, and the others are one
update each. -/
theorem hostEventsChangeOnlyTheirPart : Obligations.HostEventsChangeOnlyTheirPart := by
  have hcpu (s : State) (m : List Host.Cell) : cpuKept s (s.setMem m) := ⟨⟨rfl, rfl, rfl, rfl⟩, rfl, rfl, rfl, rfl, rfl⟩
  refine ⟨fun image => ?load, fun a v => ?write, fun i r w => ?discover, fun b => ?key, ?cancel, fun on => ?stepping, ?step⟩
    <;> refine eventLeads_of_fire (fun _ => rfl) fun s => ?_
  case load => exact ⟨_, rfl, loadImage_read image s, hcpu s _, rfl, rfl⟩
  case write => exact ⟨_, rfl, onlyByte_write a v s, hcpu s _, rfl, rfl⟩
  case discover | key | cancel | stepping => exact ⟨_, rfl, rfl⟩
  case step =>
    obtain ⟨t, ht⟩ := cpuStep_next s
    obtain ⟨-, hctl, -⟩ := exec_controllerKept ht
    exact ⟨t, ht, ht, hctl⟩

end Sys2Proof.Machine
end

section
/-! SUPPORT. The decoder and the encoder undo each other (30_encoding R80 to R85, 47_undefined_opcodes R231): the operand bytes
of each mode, the two tables of R84 the other way round, and the rows of an `UNDEF_DESC`. -/

namespace Sys2Proof
open Machine

variable {d : UndefDesc}

/-- The bytes of the operand a mode reads are as many of the bytes after the opcode as the mode takes (R81, R82). -/
theorem Mode.operand_bytes {m : Mode} {l : List Byte} (h : m.operandBytes ≤ l.length) :
    (m.operand (l.getD 0 0) (l.getD 1 0)).bytes = l.take m.operandBytes := by
  cases m
  case imp | acc => rfl
  case abs | absx | absy | ind =>
    match l, h with
    | b1 :: b2 :: l, _ => simp [Mode.operand, Operand.bytes, Mode.operandBytes]
  all_goals
    match l, h with
    | b1 :: l, _ => rfl

/-- An operand has the bytes its mode takes (R81). -/
@[simp] theorem Operand.bytes_length (o : Operand) : o.bytes.length = o.mode.operandBytes := by
  cases o <;> rfl

/-- An operand's mode reads it back from its bytes, low byte first, whatever follows them (R82). -/
theorem Operand.mode_operand_bytes (o : Operand) (rest : List Byte) :
    o.mode.operand ((o.bytes ++ rest).getD 0 0) ((o.bytes ++ rest).getD 1 0) = o := by
  cases o
  case abs w | absx w | absy w | ind w => simp [Operand.mode, Mode.operand, Operand.bytes]
  all_goals rfl

/-- Every row of the table by mnemonic is a cell of the opcode map (R84). -/
theorem mapCell_of_mem_opcodes {n : Mnemonic} : ∀ r ∈ n.opcodes, mapCell r.2 = (n, r.1) := by
  cases n <;> decide

/-- A documented mnemonic has an opcode in each of its modes (R84). -/
theorem Mnemonic.opcodes_modes {n : Mnemonic} (h : n ≠ .und) : n.opcodes.map Prod.fst = n.modes := by
  cases n
  case und => contradiction
  all_goals rfl

/-- The opcode found for a mode stands in that mode's row. -/
theorem findOpcode_mem {m : Mode} {l : List (Mode × Byte)} (h : m ∈ l.map Prod.fst) :
    ∃ op, findOpcode m l = some op ∧ (m, op) ∈ l := by
  induction l with
  | nil => simp at h
  | cons r l ih =>
    obtain ⟨k, op⟩ := r
    by_cases hk : k = m
    · exact ⟨op, by simp [findOpcode, hk], by simp [hk]⟩
    · obtain ⟨op', hfind, hmem⟩ := ih (by simpa [Ne.symm hk] using h)
      exact ⟨op', by simp [findOpcode, hk, hfind], List.mem_cons_of_mem _ hmem⟩

/-- Only UND carries its opcode (R85). -/
theorem Instr.mnemonic_of_undOpcode {i : Instr} {op : Byte} (h : i.undOpcode = some op) : i.mnemonic = .und := by
  cases i
  case und => rfl
  all_goals contradiction

theorem Instr.mnemonic_ne_und {i : Instr} (h : i.undOpcode = none) : i.mnemonic ≠ .und := by
  cases i
  case und => contradiction
  all_goals simp [Instr.mnemonic]

/-- An opcode without a documented cell is one R85 lists. -/
theorem mapCell_und_iff (op : Byte) : (mapCell op).1 = .und ↔ op.toNat ∈ undefinedOpcodes := by
  rw [← descriptor_und_iff [] op]
  by_cases h : (mapCell op).1 = .und
  · simp [descriptor_of_und h, h]
  · simp [descriptor_of_documented h]

/-- The opcode of an instruction has that instruction's row as its descriptor (R83 to R85). -/
theorem descriptor_opcode_of_wf {i : Instr} (hwf : i.wf = true) (hd : i.describedBy d) :
    descriptor d i.opcode = (i.mnemonic, i.operand.mode) := by
  simp only [Instr.wf, Instr.modeLegal, Instr.undUndefined, Bool.and_eq_true, List.contains_eq_mem, decide_eq_true_eq] at hwf
  obtain ⟨hmode, hundef⟩ := hwf
  cases hu : i.undOpcode with
  | some op =>
    have hop : i.opcode = op := by simp [Instr.opcode, hu]
    rw [hu] at hundef
    rw [hop, descriptor_of_und ((mapCell_und_iff op).2 (by simpa using hundef)), hd op hu, Instr.mnemonic_of_undOpcode hu]
  | none =>
    have hn := Instr.mnemonic_ne_und hu
    obtain ⟨op, hfind, hmem⟩ := findOpcode_mem (Mnemonic.opcodes_modes hn ▸ hmode)
    have hop : i.opcode = op := by simp [Instr.opcode, hu, hfind]
    have hcell : mapCell op = (i.mnemonic, i.operand.mode) := mapCell_of_mem_opcodes _ hmem
    rw [hop, descriptor_of_documented (by rwa [hcell]), hcell]

/-- An instruction is what the decoder makes of its opcode and its operand's bytes. -/
theorem instrOf_opcode_eq {i : Instr} {b1 b2 : Byte} (hdesc : descriptor d i.opcode = (i.mnemonic, i.operand.mode))
    (hop : i.operand.mode.operand b1 b2 = i.operand) : instrOf d i.opcode b1 b2 = i := by
  simp only [instrOf, hdesc, hop]
  cases i
  case jsr | bcc | bcs | beq | bne | bmi | bpl | bvc | bvs =>
    cases hop
    rfl
  all_goals rfl

/-- Some `UNDEF_DESC` gives an undefined opcode whatever mode it has (R231). -/
theorem Instr.exists_describedBy (i : Instr) : ∃ d, i.describedBy d :=
  ⟨[(i.operand.mode, i.undOpcode.toList.map BitVec.toNat)], fun op h => by simp [h, modeIn]⟩

/-- Settles O11: the opcode's descriptor is the instruction's row, and its mode reads the operand's bytes back. -/
theorem decodeInvertsEncode : Obligations.DecodeInvertsEncode := by
  refine ⟨fun d i rest hwf hd => ?_, Instr.exists_describedBy⟩
  have hdesc := descriptor_opcode_of_wf hwf hd
  have hinstr := instrOf_opcode_eq hdesc (i.operand.mode_operand_bytes rest)
  have hrest : (i.operand.bytes ++ rest).drop i.operand.mode.operandBytes = rest :=
    List.drop_left' i.operand.bytes_length
  rw [encode, if_pos hwf, List.cons_append, decode, hinstr, hdesc, hrest, if_neg (by simp)]

/-- The opcode of a decoded instruction is the byte it was decoded from (R84, R85). -/
theorem instrOf_opcode (d : UndefDesc) (op b1 b2 : Byte) : (instrOf d op b1 b2).opcode = op := by
  rw [Instr.opcode, instrOf_undOpcode, instrOf_mode, instrOf_mnemonic]
  by_cases h : (descriptor d op).1 = .und
  · simp [h]
  · simp [h, descriptor_opcode d op h]

/-- Settles O12: the opcode is `instrOf_opcode`, the operand's bytes are `Mode.operand_bytes`. -/
theorem encodeInvertsDecode : Obligations.EncodeInvertsDecode := by
  intro d bytes rest i h
  cases bytes with
  | nil => cases h
  | cons op l =>
    rw [decode] at h
    split at h
    · cases h
    · next hlen =>
      cases h
      rw [encode, if_pos (instrOf_wf ..), instrOf_opcode, instrOf_operand, Mode.operand_bytes (Nat.le_of_not_lt hlen),
        List.cons_append, List.take_append_drop]

/-- An opcode some row of an `UNDEF_DESC` lists has a mode whose row lists it. -/
theorem modeIn_mem {n : Nat} (h : n ∈ d.flatMap Prod.snd) : ∃ l, n ∈ l ∧ (modeIn d n, l) ∈ d := by
  induction d with
  | nil => simp at h
  | cons r d ih =>
    obtain ⟨m, ops⟩ := r
    by_cases hn : n ∈ ops
    · exact ⟨ops, hn, by simp [modeIn, hn]⟩
    · obtain ⟨l, hl, hmem⟩ := ih (by simpa [hn] using h)
      exact ⟨l, hl, by simp [modeIn, hn, hmem]⟩

/-- Where no two rows of an `UNDEF_DESC` list the same opcode, every row gives its opcodes its mode (R231). -/
theorem modeIn_of_mem {n : Nat} {m : Mode} {l : List Nat} (hd : (d.flatMap Prod.snd).Nodup) (hn : n ∈ l) (hl : (m, l) ∈ d) :
    modeIn d n = m := by
  induction d with
  | nil => simp at hl
  | cons r d ih =>
    obtain ⟨k, ops⟩ := r
    rw [List.flatMap_cons, List.nodup_append] at hd
    obtain ⟨-, hnodup, hdisj⟩ := hd
    rcases List.mem_cons.1 hl with heq | hl
    · cases heq
      simp [modeIn, hn]
    · have hout : n ∉ ops := fun h => hdisj n h n (List.mem_flatMap.2 ⟨_, hl, hn⟩) rfl
      simp [modeIn, hout, ih hnodup hl]

/-- R231's rows list each undefined opcode of R85 once. -/
theorem defaultUndefDesc_perm : (defaultUndefDesc.flatMap Prod.snd).Perm undefinedOpcodes := by
  decide

theorem undefinedOpcodes_nodup : undefinedOpcodes.Nodup := by
  decide

/-- With R231's table, an opcode is undefined in mode `m` when a row for `m` lists it. -/
theorem descriptor_default_und_iff (op : Byte) (m : Mode) :
    descriptor defaultUndefDesc op = (.und, m) ↔ ∃ l, op.toNat ∈ l ∧ (m, l) ∈ defaultUndefDesc := by
  constructor
  · intro h
    have hund : op.toNat ∈ undefinedOpcodes := (descriptor_und_iff defaultUndefDesc op).1 (by rw [h])
    rw [descriptor_of_und ((mapCell_und_iff op).2 hund)] at h
    cases h
    exact modeIn_mem (defaultUndefDesc_perm.mem_iff.2 hund)
  · rintro ⟨l, hop, hl⟩
    have hund : op.toNat ∈ undefinedOpcodes := defaultUndefDesc_perm.mem_iff.1 (List.mem_flatMap.2 ⟨_, hl, hop⟩)
    rw [descriptor_of_und ((mapCell_und_iff op).2 hund),
      modeIn_of_mem (defaultUndefDesc_perm.nodup_iff.2 undefinedOpcodes_nodup) hop hl]

/-- A row of bytes lists the same opcodes as the row of their numbers. -/
theorem mem_rows_map_toNat (rows : List (Mode × List Byte)) (op : Byte) (m : Mode) :
    (∃ l, op.toNat ∈ l ∧ (m, l) ∈ rows.map (Prod.map id (List.map BitVec.toNat))) ↔ ∃ l, op ∈ l ∧ (m, l) ∈ rows := by
  constructor
  · rintro ⟨_, hop, hrow⟩
    obtain ⟨⟨k, l⟩, hl, heq⟩ := List.mem_map.1 hrow
    cases heq
    obtain ⟨b, hb, heq⟩ := List.mem_map.1 hop
    exact ⟨l, BitVec.eq_of_toNat_eq heq ▸ hb, hl⟩
  · rintro ⟨l, hop, hl⟩
    exact ⟨_, List.mem_map_of_mem hop, List.mem_map_of_mem hl⟩

/-- Settles O10: the decoder's laws, R85's list by `descriptor_und_iff`, and R231's rows by `descriptor_default_und_iff`. -/
theorem everyOpcodeDecodes : Obligations.EveryOpcodeDecodes := by
  refine ⟨fun d op b1 b2 rest => ⟨instrOf d op b1 b2, ?decodes, instrOf_wf .., instrOf_mnemonic .., instrOf_mode ..,
    instrOf_length ..⟩, fun d op h => ?undefined, fun d e op h => ?documented, fun op m => ?rows⟩
  case decodes => rw [decode_three, instrOf_length, Mode.length, List.drop_succ_cons]
  case undefined => exact descriptor_of_und ((mapCell_und_iff op).2 h)
  case documented =>
    have hcell : (mapCell op).1 ≠ .und := mt (mapCell_und_iff op).1 h
    rw [descriptor_of_documented hcell, descriptor_of_documented hcell]
    exact ⟨hcell, rfl⟩
  case rows =>
    rw [descriptor_default_und_iff, ← mem_rows_map_toNat]
    rfl

/-- Settles O13: each of the nine words is run through the decoder. -/
theorem wordsDecodeAsTheMapSays : Obligations.WordsDecodeAsTheMapSays := by
  unfold Obligations.WordsDecodeAsTheMapSays
  decide

end Sys2Proof
end

section
/-! SUPPORT. Where each addressing mode finds its operand (40_addressing_modes R102 to R116): the resolver's addresses as numbers,
the bytes of its pointers, when an index crosses a page, and which byte an operand's value is. -/

namespace Sys2Proof.Machine

variable {o : Operand} {s : State} {ea : Addr}

@[simp] theorem zeroPage_toNat (b : Byte) : (zeroPage b).toNat = b.toNat :=
  BitVec.toNat_setWidth_of_le (by decide)

/-- A sum in page 0 is modulo 256 (R105, R106, R112, R113). -/
theorem zeroPage_add_toNat (b i : Byte) : (zeroPage (b + i)).toNat = (b.toNat + i.toNat) % 256 := by
  rw [zeroPage_toNat, BitVec.toNat_add]

/-- Adding an index register to an address is modulo 65536 (R109, R110, R113). -/
theorem add_zeroPage_toNat (w : Addr) (i : Byte) : (w + zeroPage i).toNat = (w.toNat + i.toNat) % 65536 := by
  rw [BitVec.toNat_add, zeroPage_toNat]

/-- The step to an indirect pointer's second byte stays in the pointer's page (R111). -/
theorem nextInPage_toNat (w : Addr) : (nextInPage w).toNat = 256 * (w.toNat / 256) + (w.toNat + 1) % 256 := by
  rw [nextInPage, word16_toNat, hi_toNat, BitVec.toNat_add, lo_toNat]
  exact congrArg _ (Nat.mod_add_mod w.toNat 256 1)

@[simp] theorem lo_zeroPagePointer (zp : Byte) : lo (zeroPagePointer s zp) = s.read (zeroPage zp) := lo_word16 _ _

@[simp] theorem hi_zeroPagePointer (zp : Byte) : hi (zeroPagePointer s zp) = s.read (zeroPage (zp + 1)) := hi_word16 _ _

/-- An index crosses a page exactly when it carries into the high byte (R116). -/
theorem pageCross_iff {base : Addr} (hbase : baseAddr o s = some base) (hea : effAddr o s = some ea) :
    pageCross o s = true ↔ hi base ≠ hi ea := by
  rw [pageCross, hbase, hea, bne_iff_ne]

/-- A mode without an indexed base never crosses (R116). -/
theorem pageCross_eq_false (h : o.mode ∉ [.absx, .absy, .indy]) : pageCross o s = false := by
  cases o
  case absx | absy | indy => simp [Operand.mode] at h
  all_goals rfl

theorem effAddr_eq_none_iff : effAddr o s = none ↔ o.mode ∈ [.imp, .acc, .imm, .rel] := by
  cases o <;> simp [effAddr, Operand.mode]

/-- In a mode with an effective address the operand's value is the byte there (R114). -/
theorem getValue_of_effAddr (h : effAddr o s = some ea) : getValue o s = s.read ea := by
  cases o
  case imp | acc | imm | rel => cases h
  all_goals simp only [getValue, h]

/-- In a mode with an effective address a result is written there (R115). -/
theorem putValue_of_effAddr (v : Byte) (h : effAddr o s = some ea) : putValue o v s = s.write ea v := by
  cases o
  case acc => cases h
  all_goals simp only [putValue, h]

/-- The operand decoded in mode imm is the byte after the opcode (R82, R103). -/
theorem instrOf_operand_imm {d : UndefDesc} {op b1 b2 : Byte} (h : (instrOf d op b1 b2).operand.mode = .imm) :
    (instrOf d op b1 b2).operand = .imm b1 := by
  rw [instrOf_mode] at h
  rw [instrOf_operand, h, Mode.operand]

/-- The opcodes of mode zpy in the map of R84 with the rows of R231: STX, LDX and two undefined ones (R106). -/
theorem descriptor_default_zpy_iff :
    ∀ op : Byte, (descriptor defaultUndefDesc op).2 = .zpy ↔ op ∈ [0x96, 0xB6, 0x97, 0xB7] := by
  decide +kernel

/-- The one opcode of mode ind in the map of R84 with the rows of R231: JMP (R111). -/
theorem descriptor_default_ind_iff : ∀ op : Byte, (descriptor defaultUndefDesc op).2 = .ind ↔ op = 0x6C := by
  decide +kernel

/-- Settles O7: the index is added in 8 bits in page 0 and in 16 bits to an absolute address. -/
theorem indexedAddressesWrap : Obligations.IndexedAddressesWrap :=
  fun b w s =>
    ⟨⟨_, rfl, zeroPage_add_toNat b s.x, pageCross_eq_false (by simp [Operand.mode]), rfl⟩,
     ⟨_, rfl, zeroPage_add_toNat b s.y, pageCross_eq_false (by simp [Operand.mode]), rfl⟩,
     ⟨_, rfl, add_zeroPage_toNat w s.x, pageCross_iff rfl rfl, rfl⟩,
     ⟨_, rfl, add_zeroPage_toNat w s.y, pageCross_iff rfl rfl, rfl⟩,
     descriptor_default_zpy_iff⟩

/-- Settles O8: the two bytes of each pointer, the second at `nextInPage` for mode ind and at an 8-bit sum for mode indx. -/
theorem indirectPointersWrapInTheirPage : Obligations.IndirectPointersWrapInTheirPage := by
  refine fun b w s => ⟨⟨_, nextInPage w, rfl, lo_word16 _ _, hi_word16 _ _, nextInPage_toNat w, rfl⟩,
    ⟨_, _, _, rfl, lo_zeroPagePointer _, hi_zeroPagePointer _, zeroPage_add_toNat b s.x, ?_,
      pageCross_eq_false (by simp [Operand.mode]), rfl⟩,
    descriptor_default_ind_iff⟩
  rw [zeroPage_add_toNat, BitVec.toNat_add]
  exact Nat.mod_add_mod _ _ _

/-- Settles O9: each mode's operand by the resolver's equation for it, and that of mode imm by the decoder's. -/
theorem operandsAreReadWhereTheModeSays : Obligations.OperandsAreReadWhereTheModeSays := by
  refine ⟨fun b w s => ⟨rfl, rfl, rfl, rfl, rfl, rfl, rfl, rfl, ?indy⟩, fun _ _ => effAddr_eq_none_iff,
    fun _ _ _ v h => ⟨getValue_of_effAddr h, putValue_of_effAddr v h⟩, fun _ _ => rfl, fun s i rest himm hdec => ?imm,
    fun _ _ => pageCross_eq_false⟩
  case indy =>
    exact ⟨_, zeroPagePointer s b, _, rfl, lo_zeroPagePointer b, hi_zeroPagePointer b, zeroPage_add_toNat b 1,
      add_zeroPage_toNat _ s.y, pageCross_iff rfl rfl, rfl⟩
  case imm =>
    rw [decode_three] at hdec
    cases hdec
    rw [instrOf_operand_imm himm, getValue]

end Sys2Proof.Machine
end

section
/-! SUPPORT. What every instruction that completes leaves (70_reset_and_hazards R305): the flags its row does not list, its cost,
Z and N after a `SetZN`; and the rows of a mnemonic in the opcode map (30_encoding R84). -/

namespace Sys2Proof.Machine
open Sys2Proof.Claims

variable {i : Instr} {s t : State}

/-- Every flag but those of the instruction's row of `flagsWritten` is as before. -/
theorem exec_flagsKept (h : exec i s = .next t) : flagsKept (flagsWritten i.mnemonic) s t :=
  fun f hu hf => by rw [exec_flag h hf, if_neg hu]

/-- An instruction pays its base cost and its extra, and keeps what no rule writes (R310). -/
theorem exec_accounted (h : exec i s = .next t) : accounted i (extraOf i (fetched i.length s)) s t := by
  obtain ⟨hticks, hgoal, hctl, hhost, hparams⟩ := ruleOf_systemKept i (fetched i.length s)
  refine ⟨exec_flag_u h, ?_⟩
  rw [exec_next h]
  simp [hticks, hgoal, hctl, hhost, hparams, baseCost, Nat.add_assoc]

/-- Only ADC, SBC and the branches have an extra cost (R313, R314). -/
theorem extraOf_eq_zero (h : i.mnemonic ∉ [.adc, .sbc, .bcc, .bcs, .beq, .bne, .bmi, .bpl, .bvc, .bvs]) :
    extraOf i s = 0 := by
  cases i
  case adc | sbc | bcc | bcs | beq | bne | bmi | bpl | bvc | bvs => simp [Instr.mnemonic] at h
  all_goals rfl

/-- A rule that ends with `SetZN(v)` leaves Z and N describing `v` (R40). -/
theorem exec_zeroSign {u : State} {v : Byte} (h : exec i s = .next t) (hrule : ruleOf i (fetched i.length s) = setZN v u) :
    zeroSign v t := by
  obtain ⟨hzn, -, -⟩ := setZNWritesTwoFlags v u
  rw [exec_next h, hrule]
  exact hzn

/-- A documented term is an instruction exactly in the modes of its mnemonic (R84). -/
theorem wf_iff_mode_mem (h : i.undOpcode = none) : i.wf = true ↔ i.operand.mode ∈ i.mnemonic.modes := by
  simp [Instr.wf, Instr.modeLegal, Instr.undUndefined, h]

/-- No mnemonic has two opcodes in one mode (R84). -/
theorem opcodes_modes_nodup (n : Mnemonic) : (n.opcodes.map Prod.fst).Nodup := by
  cases n <;> decide

/-- Where no two rows have the same mode, the opcode found for a mode is that of any row for it. -/
theorem findOpcode_of_mem {m : Mode} {op : Byte} {l : List (Mode × Byte)} (hnodup : (l.map Prod.fst).Nodup)
    (h : (m, op) ∈ l) : findOpcode m l = some op := by
  induction l with
  | nil => simp at h
  | cons r l ih =>
    rw [List.map_cons, List.nodup_cons] at hnodup
    obtain ⟨hout, hnodup⟩ := hnodup
    rcases List.mem_cons.1 h with heq | hl
    · simp [findOpcode, ← heq]
    · have hne : r.1 ≠ m := fun e => hout (e ▸ List.mem_map_of_mem (f := Prod.fst) hl)
      rw [findOpcode, if_neg hne, ih hnodup hl]

/-- The rows of a documented mnemonic are its opcodes in the table by mnemonic (R84). -/
theorem rows_opcodes (mk : Operand → Instr) {n : Mnemonic} (hmn : ∀ o, (mk o).mnemonic = n) (hop : ∀ o, (mk o).operand = o)
    (hund : ∀ o, (mk o).undOpcode = none) : rows mk n.opcodes := by
  intro o
  have hn : n ≠ .und := hmn o ▸ Instr.mnemonic_ne_und (hund o)
  have hwf : (mk o).wf = true ↔ ∃ op, (o.mode, op) ∈ n.opcodes := by
    rw [wf_iff_mode_mem (hund o), hmn, hop, ← Mnemonic.opcodes_modes hn]
    simp
  refine ⟨hwf, fun op hrow => ?_⟩
  have hcode : (mk o).opcode = op := by
    simp [Instr.opcode, hund, hmn, hop, findOpcode_of_mem (opcodes_modes_nodup n) hrow]
  rw [encode, if_pos (hwf.2 ⟨op, hrow⟩), hcode, hop]

end Sys2Proof.Machine
end

section
/-! SUPPORT. The loads, stores and transfers (41_load_store_transfer R120 to R131): what those that fill a register have in common,
what the stores have in common, and the statements about them. -/

namespace Sys2Proof.Machine
open Sys2Proof.Claims

variable {i : Instr}

/-- Where the instructions that fill `A`, `X` or `Y` and describe it in Z and N stand in the tables by mnemonic. -/
theorem fill_mnemonics : ∀ m ∈ [Mnemonic.lda, .ldx, .ldy, .tax, .tay, .txa, .tya, .tsx],
    flagsWritten m = [.z, .n] ∧
    m ∉ [.sta, .stx, .sty, .inc, .dec, .asl, .lsr, .rol, .ror, .pha, .php, .jsr, .brk] ∧
    m ∉ [.jmp, .jsr, .rts, .rti, .bcc, .bcs, .beq, .bne, .bmi, .bpl, .bvc, .bvs, .brk] ∧
    m ∉ [.adc, .sbc, .bcc, .bcs, .beq, .bne, .bmi, .bpl, .bvc, .bvs] := by
  decide

/-- Everything a load, or a transfer but TXS, does: its rule gives the registers of `u` and has Z and N describe `v`; no other flag
and no memory changes, `PC` is past the instruction, and no extra cost is paid. -/
theorem exec_fill {s u : State} {v : Byte} (hm : i.mnemonic ∈ [.lda, .ldx, .ldy, .tax, .tay, .txa, .tya, .tsx])
    (hw : i.wf = true) (hrule : ruleOf i (fetched i.length s) = setZN v u) :
    ∃ t, exec i s = .next t ∧ registersKept u t ∧ t.pc = past i s ∧ zeroSign v t ∧ flagsKept [.z, .n] s t ∧
      memoryKept s t ∧ accounted i 0 s t := by
  obtain ⟨hflags, hmem, hpc, hextra⟩ := fill_mnemonics _ hm
  obtain ⟨t, h⟩ := exec_of_wf hw s
  have hregs : registersKept u t := by
    rw [exec_next h, hrule]
    exact ⟨rfl, rfl, rfl, rfl⟩
  exact ⟨t, h, hregs, pcAdvancesByTheLength i s t h hpc, exec_zeroSign h hrule, hflags ▸ exec_flagsKept h,
    onlyStoresAndPushesChangeMemory i s t h (.inl hmem), extraOf_eq_zero hextra ▸ exec_accounted h⟩

/-- Settles O22: each rule fills its register with the operand, which the fetch does not change; the rest is `exec_fill`. -/
theorem loadsFillARegister : Obligations.LoadsFillARegister := by
  refine ⟨rows_opcodes .lda (fun _ => rfl) (fun _ => rfl) (fun _ => rfl), rfl, fun o s hw => ?lda,
    rows_opcodes .ldx (fun _ => rfl) (fun _ => rfl) (fun _ => rfl), rfl,
    rows_opcodes .ldy (fun _ => rfl) (fun _ => rfl) (fun _ => rfl), rfl, fun o s hw => ?ldx, fun o s hw => ?ldy⟩
  case lda =>
    obtain ⟨t, h, ⟨ha, hx, hy, hsp⟩, hpc, hzn, hflags, hmem, hacc⟩ :=
      exec_fill (u := (fetched _ s).setA (getValue o s)) (by simp [Instr.mnemonic]) hw (by rw [ruleOf, getValue_fetched])
    exact ⟨t, h, ha, hzn, hflags, hmem, hx, hy, hsp, hpc, hacc⟩
  case ldx =>
    obtain ⟨t, h, ⟨ha, hx, hy, hsp⟩, kept⟩ :=
      exec_fill (u := (fetched _ s).setX (getValue o s)) (by simp [Instr.mnemonic]) hw (by rw [ruleOf, getValue_fetched])
    exact ⟨t, h, hx, ha, hy, hsp, kept⟩
  case ldy =>
    obtain ⟨t, h, ⟨ha, hx, hy, hsp⟩, kept⟩ :=
      exec_fill (u := (fetched _ s).setY (getValue o s)) (by simp [Instr.mnemonic]) hw (by rw [ruleOf, getValue_fetched])
    exact ⟨t, h, hy, ha, hx, hsp, kept⟩

/-- Where the stores stand in the tables by mnemonic: in modes with an effective address only. -/
theorem store_mnemonics : ∀ m ∈ [Mnemonic.sta, .stx, .sty],
    (∀ k ∈ m.modes, k ∉ [.imp, .acc, .imm, .rel]) ∧ flagsWritten m = [] ∧
    m ∉ [.lda, .pla, .txa, .tya, .adc, .sbc, .and, .ora, .eor, .asl, .lsr, .rol, .ror] ∧
    m ∉ [.ldx, .tax, .tsx, .inx, .dex] ∧ m ∉ [.ldy, .tay, .iny, .dey] ∧
    m ∉ [.txs, .pha, .php, .pla, .plp, .jsr, .rts, .brk, .rti] ∧
    m ∉ [.jmp, .jsr, .rts, .rti, .bcc, .bcs, .beq, .bne, .bmi, .bpl, .bvc, .bvs, .brk] ∧
    m ∉ [.adc, .sbc, .bcc, .bcs, .beq, .bne, .bmi, .bpl, .bvc, .bvs] := by
  decide

/-- The terms `mk o` are those of a store, whose rule puts the register `r` in the operand's place: they store it. -/
theorem storesRegister_of_rule {mk : Operand → Instr} {r : State → Byte} (hm : ∀ o, (mk o).mnemonic ∈ [.sta, .stx, .sty])
    (hop : ∀ o, (mk o).operand = o) (hund : ∀ o, (mk o).undOpcode = none)
    (hrule : ∀ o s, ruleOf (mk o) (fetched (mk o).length s) = putValue o (r s) (fetched (mk o).length s)) :
    storesRegister mk r := by
  intro o s hw
  obtain ⟨hmodes, hflags, ha, hx, hy, hsp, hpc, hextra⟩ := store_mnemonics _ (hm o)
  have hmode : (mk o).operand.mode ∉ [.imp, .acc, .imm, .rel] := hmodes _ ((wf_iff_mode_mem (hund o)).1 hw)
  rw [hop] at hmode
  obtain ⟨ea, hea⟩ := Option.ne_none_iff_exists'.1 (mt effAddr_eq_none_iff.1 hmode)
  obtain ⟨t, h⟩ := exec_of_wf hw s
  have hbyte : onlyByte ea (r s) s t := by
    rw [exec_next h, hrule, putValue_of_effAddr _ ((effAddr_fetched s o _).trans hea)]
    exact onlyByte_write ea (r s) (fetched _ s)
  obtain ⟨hkeepA, -, hkeepX, hkeepY, hkeepSp⟩ := registersHaveOnlyTheirWriters _ _ _ h
  exact ⟨t, ea, h, hea, hbyte, ⟨hkeepA ha, hkeepX hx, hkeepY hy, hkeepSp hsp⟩, pcAdvancesByTheLength _ _ _ h hpc,
    hflags ▸ exec_flagsKept h, extraOf_eq_zero hextra ▸ exec_accounted h⟩

/-- Settles O23: the rows of the table by mnemonic, and each store's rule by `storesRegister_of_rule`. -/
theorem storesWriteOneByte : Obligations.StoresWriteOneByte :=
  ⟨rows_opcodes .sta (fun _ => rfl) (fun _ => rfl) (fun _ => rfl), rows_opcodes .stx (fun _ => rfl) (fun _ => rfl) (fun _ => rfl),
    rows_opcodes .sty (fun _ => rfl) (fun _ => rfl) (fun _ => rfl), rfl,
    storesRegister_of_rule (fun _ => by simp [Instr.mnemonic]) (fun _ => rfl) (fun _ => rfl) (fun _ _ => rfl),
    storesRegister_of_rule (fun _ => by simp [Instr.mnemonic]) (fun _ => rfl) (fun _ => rfl) (fun _ _ => rfl),
    storesRegister_of_rule (fun _ => by simp [Instr.mnemonic]) (fun _ => rfl) (fun _ => rfl) (fun _ _ => rfl)⟩

/-- A one-byte instruction whose rule gives the registers of `u` and has Z and N describe `v` transfers `v`. -/
theorem transfers_of_rule {op : Byte} {v : State → Byte} {regs : State → State → Prop} (u : State → State)
    (hm : i.mnemonic ∈ [.tax, .tay, .txa, .tya, .tsx]) (hw : i.wf = true) (henc : encode i = [op])
    (hrule : ∀ s, ruleOf i (fetched i.length s) = setZN (v s) (u s))
    (hregs : ∀ s t, registersKept (u s) t → regs s t ∧ t.sp = s.sp) : transfers i op v regs := by
  refine ⟨henc, fun s => ?_⟩
  obtain ⟨t, h, hkept, hpc, hzn, hflags, hmem, hacc⟩ := exec_fill (List.mem_append_right [.lda, .ldx, .ldy] hm) hw (hrule s)
  obtain ⟨hreg, hsp⟩ := hregs s t hkept
  have hlen : i.length = 1 := by rw [← (Laws.EncodedLength.of_operand i hw).1, henc, List.length_singleton]
  rw [past, hlen] at hpc
  exact ⟨t, h, hreg, hsp, hzn, hflags, hpc, hmem, hacc⟩

/-- TXS sets `SP` to `X` and nothing else (R131). -/
theorem exec_txs (s : State) : ∃ t, exec .txs s = .next t ∧ t.sp = s.x ∧ t.a = s.a ∧ t.x = s.x ∧ t.y = s.y ∧ t.pc = s.pc + 1 ∧
    flagsKept [] s t ∧ memoryKept s t ∧ accounted .txs 0 s t := by
  obtain ⟨t, h⟩ := exec_of_wf (i := .txs) rfl s
  obtain ⟨hkeepA, -, hkeepX, hkeepY, -⟩ := registersHaveOnlyTheirWriters _ _ _ h
  have hsp : t.sp = s.x := by
    rw [exec_next h]
    rfl
  exact ⟨t, h, hsp, hkeepA (by decide), hkeepX (by decide), hkeepY (by decide), pcAdvancesByTheLength _ _ _ h (by decide),
    exec_flagsKept h, onlyStoresAndPushesChangeMemory _ _ _ h (.inl (by decide)), exec_accounted h⟩

/-- Settles O24: each rule's register by `transfers_of_rule`, and TXS by `exec_txs`. -/
theorem transfersCopyARegister : Obligations.TransfersCopyARegister :=
  ⟨transfers_of_rule (fun s => (fetched 1 s).setX s.a) (by decide) rfl rfl (fun _ => rfl)
      (fun _ _ ⟨ha, hx, hy, hsp⟩ => ⟨⟨hx, ha, hy⟩, hsp⟩),
    transfers_of_rule (fun s => (fetched 1 s).setY s.a) (by decide) rfl rfl (fun _ => rfl)
      (fun _ _ ⟨ha, hx, hy, hsp⟩ => ⟨⟨hy, ha, hx⟩, hsp⟩),
    transfers_of_rule (fun s => (fetched 1 s).setA s.x) (by decide) rfl rfl (fun _ => rfl)
      (fun _ _ ⟨ha, hx, hy, hsp⟩ => ⟨⟨ha, hx, hy⟩, hsp⟩),
    transfers_of_rule (fun s => (fetched 1 s).setA s.y) (by decide) rfl rfl (fun _ => rfl)
      (fun _ _ ⟨ha, hx, hy, hsp⟩ => ⟨⟨ha, hx, hy⟩, hsp⟩),
    transfers_of_rule (fun s => (fetched 1 s).setX s.sp) (by decide) rfl rfl (fun _ => rfl)
      (fun _ _ ⟨ha, hx, hy, hsp⟩ => ⟨⟨hx, ha, hy⟩, hsp⟩),
    rfl, exec_txs⟩

end Sys2Proof.Machine
end

section
/-! SUPPORT. The stack instructions (42_stack R140 to R143): what the pushes have in common, what the pulls have in common, and the
statements about them. -/

namespace Sys2Proof.Machine
open Sys2Proof.Claims

variable {i : Instr} {s : State}

/-- Where the stack instructions stand in the tables by mnemonic. -/
theorem stack_mnemonics : ∀ m ∈ [Mnemonic.pha, .php, .pla, .plp],
    m ∉ [.ldx, .tax, .tsx, .inx, .dex] ∧ m ∉ [.ldy, .tay, .iny, .dey] ∧
    m ∉ [.jmp, .jsr, .rts, .rti, .bcc, .bcs, .beq, .bne, .bmi, .bpl, .bvc, .bvs, .brk] ∧
    m ∉ [.adc, .sbc, .bcc, .bcs, .beq, .bne, .bmi, .bpl, .bvc, .bvs] := by
  decide

/-- What all four stack instructions leave: `X` and `Y` as before, `PC` past the instruction, the base cost paid. -/
theorem exec_stack {t : State} (hm : i.mnemonic ∈ [.pha, .php, .pla, .plp]) (h : exec i s = .next t) :
    t.x = s.x ∧ t.y = s.y ∧ t.pc = past i s ∧ accounted i 0 s t := by
  obtain ⟨hx, hy, hpc, hextra⟩ := stack_mnemonics _ hm
  obtain ⟨-, -, hkeepX, hkeepY, -⟩ := registersHaveOnlyTheirWriters i s t h
  exact ⟨hkeepX hx, hkeepY hy, pcAdvancesByTheLength i s t h hpc, extraOf_eq_zero hextra ▸ exec_accounted h⟩

/-- Everything PHA and PHP do: the rule pushes `v`, and nothing but that byte, `SP` and `PC` changes (R140, R141). -/
theorem exec_push {v : Byte} (hm : i.mnemonic ∈ [.pha, .php]) (hw : i.wf = true)
    (hrule : ruleOf i (fetched i.length s) = push8 v (fetched i.length s)) :
    ∃ t, exec i s = .next t ∧ onlyByte (stackAddr s.sp) v s t ∧ t.sp = s.sp - 1 ∧ t.a = s.a ∧ t.x = s.x ∧ t.y = s.y ∧
      t.pc = past i s ∧ flagsKept [] s t ∧ accounted i 0 s t := by
  obtain ⟨t, h⟩ := exec_of_wf hw s
  obtain ⟨hx, hy, hpc, hacc⟩ := exec_stack (List.mem_append_left [.pla, .plp] hm) h
  have hflags : ∀ m ∈ [Mnemonic.pha, .php], flagsWritten m = [] := by decide
  have ht : t = tick _ (push8 v (fetched i.length s)) := hrule ▸ exec_next h
  have hbyte : onlyByte (stackAddr s.sp) v s t := ht ▸ onlyByte_push8 v (fetched i.length s)
  exact ⟨t, h, hbyte, ht ▸ rfl, ht ▸ rfl, hx, hy, hpc, hflags _ hm ▸ exec_flagsKept h, hacc⟩

/-- What PLA and PLP have in common: `SP` grows by 1, and memory, `X` and `Y` are as before (R142, R143). -/
theorem exec_pull (hm : i.mnemonic ∈ [.pla, .plp]) (hw : i.wf = true)
    (hsp : (ruleOf i (fetched i.length s)).sp = s.sp + 1) :
    ∃ t, exec i s = .next t ∧ t.sp = s.sp + 1 ∧ t.x = s.x ∧ t.y = s.y ∧ t.pc = past i s ∧ memoryKept s t ∧
      accounted i 0 s t := by
  obtain ⟨t, h⟩ := exec_of_wf hw s
  obtain ⟨hx, hy, hpc, hacc⟩ := exec_stack (List.mem_append_right [.pha, .php] hm) h
  have hmem : ∀ m ∈ [Mnemonic.pla, .plp],
      m ∉ [.sta, .stx, .sty, .inc, .dec, .asl, .lsr, .rol, .ror, .pha, .php, .jsr, .brk] := by decide
  have htsp : t.sp = s.sp + 1 := by rw [exec_next h, tick_sp, hsp]
  exact ⟨t, h, htsp, hx, hy, hpc, onlyStoresAndPushesChangeMemory i s t h (.inl (hmem _ hm)), hacc⟩

/-- Settles O25: PHA by `exec_push`; PLA by `exec_pull`, its rule filling `A` with the pulled byte and ending with `SetZN` of it. -/
theorem phaAndPlaMoveTheAccumulator : Obligations.PhaAndPlaMoveTheAccumulator := by
  refine ⟨rfl, rfl, fun s => exec_push (by decide) rfl rfl, fun s => ?pla⟩
  obtain ⟨t, h, hsp, hx, hy, hpc, hmem, hacc⟩ := exec_pull (i := .pla) (s := s) (by decide) rfl rfl
  have ha : t.a = s.read (stackAddr (s.sp + 1)) := by
    rw [exec_next h]
    rfl
  exact ⟨t, h, ha, hsp, exec_zeroSign h rfl, exec_flagsKept h, hx, hy, hpc, hmem, hacc⟩

/-- The fetch sets bit 5 of `P`, the Constant flag (R29). -/
theorem fetched_p (n : Nat) (s : State) : (fetched n s).p = s.p ||| 0x20 := rfl

/-- The Constant flag the fetch sets in `P` is one of the bits PHP sets in the byte it pushes (R29, D7). -/
theorem fetched_p_or_pushed (n : Nat) (s : State) : (fetched n s).p ||| 0x30 = s.p ||| 0x30 := by
  rw [fetched_p, BitVec.or_assoc]
  rfl

/-- Settles O26: PHP by `exec_push` (D7); PLP by `exec_pull`, its rule loading `P` with the pulled byte and bit 5 (D6). -/
theorem phpAndPlpMoveTheStatus : Obligations.PhpAndPlpMoveTheStatus := by
  refine ⟨rfl, rfl, fun s => exec_push (by decide) rfl (by rw [ruleOf, fetched_p_or_pushed]), fun s => ?plp⟩
  obtain ⟨t, h, hsp, hx, hy, hpc, hmem, hacc⟩ := exec_pull (i := .plp) (s := s) (by decide) rfl rfl
  have hp : t.p = s.read (stackAddr (s.sp + 1)) ||| 0x20 := by
    rw [exec_next h]
    rfl
  exact ⟨t, h, hp, hsp, exec_a h (by decide) nofun, hx, hy, hpc, hmem, hacc⟩

end Sys2Proof.Machine
end

section
/-! SUPPORT. The shared adder, the complement SBC adds, and the decimal corrections as numbers (43_arithmetic R150, R152 to R154;
D10, D11). -/

namespace Sys2Proof.Machine
open Sys2Proof.Claims

variable (a m : Byte) (cin : Bool)

theorem sumByte_toNat : (sumByte a m cin).toNat = (a.toNat + m.toNat + cin.toNat) % 256 :=
  BitVec.toNat_ofNat _ _

/-- A result overflows when its sign bit differs from both operands' (R150). -/
theorem overflowOf_iff (r : Byte) :
    overflowOf a m r = true ↔ ¬ (128 ≤ r.toNat ↔ 128 ≤ a.toNat) ∧ ¬ (128 ≤ r.toNat ↔ 128 ≤ m.toNat) := by
  simp only [overflowOf, BitVec.msb_eq_decide, Bool.and_eq_true, bne_iff_ne, ne_eq, decide_eq_decide]

/-- The sign bits show an overflow exactly when the signed sum has no byte (R150). -/
theorem sumOverflow_iff : sumOverflow a m cin = true ↔
    a.toInt + m.toInt + cin.toNat < -128 ∨ 127 < a.toInt + m.toInt + cin.toNat := by
  have hcin := cin.toNat_le
  rw [sumOverflow, overflowOf_iff, sumByte_toNat, BitVec.toInt_eq_toNat_cond, BitVec.toInt_eq_toNat_cond]
  omega

/-- Z and N after an addition describe its result (R150). -/
theorem zeroSign_resultFlags (r : Byte) (c : Bool) (s : State) : zeroSign r (resultFlags a m r c s) := by
  simp [zeroSign, resultFlags_flag, BEq.beq, BitVec.msb_eq_getLsbD_last]

/-- Settles O27: the sum is `sumByte_toNat`, its Z and N `zeroSign_resultFlags`, its V `sumOverflow_iff`; C is the ninth bit by
definition. -/
theorem adderFlagsAreTheSums : Obligations.AdderFlagsAreTheSums := by
  intro a m cin s
  refine ⟨sumByte_toNat a m cin, ?_, zeroSign_resultFlags a m _ _ s, ?_, fun f hf => ?_, rfl⟩
  · rw [addFlags_flag]
    exact decide_eq_true_iff
  · rw [addFlags_flag, if_pos rfl, sumOverflow_iff]
  · simp_all [addFlags_flag]

/-- The complement of `m` is `255 - m` (R152). -/
theorem complement_toNat : (m ^^^ 0xFF).toNat = 255 - m.toNat := by
  rw [show m ^^^ 0xFF = ~~~m from BitVec.xor_allOnes]
  exact BitVec.toNat_not

/-- The adder's carry out of `a` and the complement of `m` is "no borrow" (R152). -/
theorem carry_complement_iff : 256 ≤ sumOf a (m ^^^ 0xFF) cin ↔ m.toNat + (if cin = true then 0 else 1) ≤ a.toNat := by
  rw [sumOf, complement_toNat]
  cases cin <;> simp <;> omega

/-- The adder's sum of `a` and the complement of `m` is `a - m - (1 - cin)` modulo 256 (R152). -/
theorem sumByte_complement : sumByte a (m ^^^ 0xFF) cin = a - m - (if cin = true then 0 else 1) := by
  refine BitVec.eq_of_toNat_eq ?_
  rw [sumByte_toNat, complement_toNat, BitVec.toNat_sub, BitVec.toNat_sub]
  cases cin <;> simp <;> omega

/-- The byte of the decimal sum is its two corrected digits side by side (R153). -/
theorem decAdc_toNat : (decAdc a m cin).1.toNat = 16 * (decAdcHigh a m cin % 16) + decAdcLow a m cin % 16 := by
  rw [decAdc, BitVec.toNat_ofNat]
  omega

/-- A byte without its low digit is 16 times its high digit (R154). -/
theorem high_digit_toNat : (a &&& 0xF0).toNat = 16 * (a.toNat / 16) := by
  have hmask : a >>> 4 <<< 4 = a &&& (0xF0 : Byte) := BitVec.shiftLeft_ushiftRight
  rw [← hmask, BitVec.toNat_shiftLeft, BitVec.toNat_ushiftRight, Nat.shiftLeft_eq, Nat.shiftRight_eq_div_pow]
  omega

/-- The byte of the decimal difference is that difference `t`, with 0x60 taken off below 0, modulo 256 (R154). -/
theorem decSbc_toNat (t : Int) (ht : t = (a &&& 0xF0).toNat - (m &&& 0xF0).toNat + decSbcLow a m cin) :
    ((decSbc a m cin).toNat : Int) = (if t < 0 then t - 0x60 else t) % 256 := by
  rw [ht, high_digit_toNat, high_digit_toNat, decSbc, BitVec.toNat_ofInt]
  exact Int.toNat_of_nonneg (Int.emod_nonneg _ (by decide))

/-- A sum `n` of two decimal digits and a carry, with 6 added past 9, has its decimal digit in the low four bits and its decimal
carry above them (R153). -/
theorem corrected_digitSum {n c : Nat} (hc : c = if 9 < n then n + 6 else n) (hn : n ≤ 19) :
    c % 16 = n % 10 ∧ c / 16 = n / 10 := by
  split at hc <;> omega

/-- On packed BCD the decimal sum is packed BCD modulo 100 with its decimal carry (R153, D10): each digit by `corrected_digitSum`,
the low one's carry going into the high one. -/
theorem decAdc_of_isBcd (ha : isBcd a) (hm : isBcd m) :
    isBcd (decAdc a m cin).1 ∧ bcdValue (decAdc a m cin).1 = (bcdValue a + bcdValue m + cin.toNat) % 100 ∧
      ((decAdc a m cin).2 = true ↔ 100 ≤ bcdValue a + bcdValue m + cin.toNat) := by
  obtain ⟨hahigh, halow⟩ := ha
  obtain ⟨hmhigh, hmlow⟩ := hm
  have hcin := cin.toNat_le
  obtain ⟨hlow, hlowCarry⟩ := corrected_digitSum (c := decAdcLow a m cin) rfl (by omega)
  have hcarry : (if 15 < decAdcLow a m cin then 1 else 0) = (a.toNat % 16 + m.toNat % 16 + cin.toNat) / 10 := by
    split <;> omega
  obtain ⟨hhigh, hhighCarry⟩ := corrected_digitSum (c := decAdcHigh a m cin) rfl (by omega)
  rw [hcarry] at hhigh hhighCarry
  have hout : (decAdc a m cin).2 = true ↔ 15 < decAdcHigh a m cin := decide_eq_true_iff
  rw [hout, isBcd, bcdValue, bcdValue, bcdValue, decAdc_toNat]
  omega

/-- A difference `d` of two decimal digits and a borrow, corrected below 0, is its decimal digit less 16 for a borrow (R154). -/
theorem corrected_digitDifference {d c : Int} (hc : c = if d < 0 then (d - 6) % 16 - 16 else d) (hlo : -10 ≤ d) (hhi : d ≤ 9) :
    c = d % 10 + 16 * (d / 10) := by
  split at hc <;> omega

/-- A difference `h` of the high digits, `l` below it, corrected below 0: its decimal digit above `l` (R154). -/
theorem corrected_highDifference {h l t : Int} (ht : t = 16 * h + l) (hlo : -10 ≤ h) (hhi : h ≤ 9) (hl : 0 ≤ l ∧ l ≤ 9) :
    (if t < 0 then t - 0x60 else t) % 256 = 16 * (h % 10) + l := by
  split <;> omega

/-- On packed BCD the decimal difference is packed BCD modulo 100 (R154, D11): the low digit by `corrected_digitDifference`, its
borrow going into the high one, which is `corrected_highDifference`. -/
theorem decSbc_of_isBcd (ha : isBcd a) (hm : isBcd m) :
    isBcd (decSbc a m cin) ∧
      (bcdValue (decSbc a m cin) : Int) = ((bcdValue a : Int) - bcdValue m - (1 - cin.toNat)) % 100 := by
  obtain ⟨hahigh, halow⟩ := ha
  obtain ⟨hmhigh, hmlow⟩ := hm
  have hcin := cin.toNat_le
  have hlow := corrected_digitDifference (c := decSbcLow a m cin) rfl (by omega) (by omega)
  generalize hd : ((a.toNat % 16 : Nat) - (m.toNat % 16 : Nat) + (cin.toNat : Nat) - 1 : Int) = d at hlow
  have hsbc := decSbc_toNat a m cin _ rfl
  rw [high_digit_toNat, high_digit_toNat, corrected_highDifference (h := a.toNat / 16 - m.toNat / 16 + d / 10) (l := d % 10)
    (by omega) (by omega) (by omega) (by omega)] at hsbc
  rw [isBcd, bcdValue, bcdValue, bcdValue]
  omega

/-- For packed BCD the binary carry is the decimal "no borrow": bytes are ordered as the numbers they stand for (D11). -/
theorem noBorrow_of_isBcd (ha : isBcd a) (hm : isBcd m) :
    256 ≤ sumOf a (m ^^^ 0xFF) cin ↔ bcdValue m + 1 ≤ bcdValue a + cin.toNat := by
  obtain ⟨hahigh, halow⟩ := ha
  obtain ⟨hmhigh, hmlow⟩ := hm
  rw [carry_complement_iff, bcdValue, bcdValue]
  cases cin <;> simp <;> omega

end Sys2Proof.Machine
end

section
/-! SUPPORT. The instructions of 43_arithmetic (R151 to R164): what the rules of ADC and SBC write in both modes, what the
instructions with an operand and the steps of the index registers have in common, and the statements about them. -/

namespace Sys2Proof.Machine
open Sys2Proof.Claims

variable {i : Instr} {s t : State}

/-- The byte ADC and SBC take Z, N and V from: the binary sum, or in decimal mode the byte the parameter `decFlags` names (R151 to
R153; log entry 14). `ruleOf_adc` and `ruleOf_sbc` tie it to the rules. -/
def flagSource (s : State) (sum dec : Byte) : Byte := if s.flag .d = true then flagByte s.params.decFlags sum dec else sum

theorem flagSource_eq_sum (sum dec : Byte) (h : s.flag .d = false ∨ s.params.decFlags = .binary) :
    flagSource s sum dec = sum := by
  rcases h with hd | hb
  · simp [flagSource, hd]
  · simp [flagSource, hb]

theorem flagSource_eq_corrected (sum dec : Byte) (hd : s.flag .d = true) (hc : s.params.decFlags = .corrected) :
    flagSource s sum dec = dec := by
  simp [flagSource, hd, hc]

/-- Everything ADC's rule writes after the fetch, in both modes (R151). -/
theorem ruleOf_adc (o : Operand) (n : Nat) {m : Byte} {c : Bool} (hm : m = getValue o s) (hc : c = s.flag .c) :
    ruleOf (.adc o) (fetched n s) =
      (resultFlags s.a m (flagSource s (sumByte s.a m c) (decimalAdc s.params.decAdc s.a m c).1)
        (if s.flag .d = true then (decimalAdc s.params.decAdc s.a m c).2 else decide (256 ≤ sumOf s.a m c)) (fetched n s)).setA
      (if s.flag .d = true then (decimalAdc s.params.decAdc s.a m c).1 else sumByte s.a m c) := by
  cases hd : s.flag .d <;> simp [ruleOf, adcWith, addFlags, flagSource, hd, hm, hc]

/-- Everything SBC's rule writes after the fetch, in both modes: the flags are those of adding the complement (R152). -/
theorem ruleOf_sbc (o : Operand) (n : Nat) {m : Byte} {c : Bool} (hm : m = getValue o s) (hc : c = s.flag .c) :
    ruleOf (.sbc o) (fetched n s) =
      (resultFlags s.a (m ^^^ 0xFF) (flagSource s (sumByte s.a (m ^^^ 0xFF) c) (decimalSbc s.params.decSbc s.a m c))
        (decide (256 ≤ sumOf s.a (m ^^^ 0xFF) c)) (fetched n s)).setA
      (if s.flag .d = true then decimalSbc s.params.decSbc s.a m c else sumByte s.a (m ^^^ 0xFF) c) := by
  cases hd : s.flag .d <;> simp [ruleOf, sbcWith, addFlags, flagSource, hd, hm, hc]

/-- What an instruction leaves whose rule writes `A` and the flags of an addition (R150 to R152). -/
theorem exec_addition {a m r v : Byte} {c : Bool} {u : State} (h : exec i s = .next t)
    (hrule : ruleOf i (fetched i.length s) = (resultFlags a m r c u).setA v) :
    t.a = v ∧ t.flag .c = c ∧ zeroSign r t ∧ t.flag .v = overflowOf a m r := by
  rw [exec_next h, hrule]
  exact ⟨rfl, resultFlags_flag u a m r c .c, zeroSign_resultFlags a m r c u, resultFlags_flag u a m r c .v⟩

/-- In decimal mode under `decFlags` = corrected, Z, N and V describe the corrected byte, which is in `A` (log entry 14). -/
theorem exec_correctedFlags {a m sum dec v : Byte} {c : Bool} {u : State} (hd : s.flag .d = true)
    (hsrc : s.params.decFlags = .corrected) (h : exec i s = .next t)
    (hrule : ruleOf i (fetched i.length s) =
      (resultFlags a m (flagSource s sum dec) c u).setA (if s.flag .d = true then dec else v)) :
    zeroSign t.a t ∧ t.flag .v = overflowOf a m t.a := by
  obtain ⟨ha, -, hzn, hv⟩ := exec_addition h hrule
  rw [if_pos hd] at ha
  rw [flagSource_eq_corrected _ _ hd hsrc, ← ha] at hzn hv
  exact ⟨hzn, hv⟩

/-- Where the instructions that combine a register or memory with an operand stand in the tables by mnemonic. -/
theorem operand_mnemonics :
    ∀ m ∈ [Mnemonic.adc, .sbc, .and, .ora, .eor, .cmp, .cpx, .cpy, .bit, .inc, .dec, .asl, .lsr, .rol, .ror],
    m ∉ [.ldx, .tax, .tsx, .inx, .dex] ∧ m ∉ [.ldy, .tay, .iny, .dey] ∧
    m ∉ [.txs, .pha, .php, .pla, .plp, .jsr, .rts, .brk, .rti] ∧
    m ∉ [.jmp, .jsr, .rts, .rti, .bcc, .bcs, .beq, .bne, .bmi, .bpl, .bvc, .bvs, .brk] := by
  decide

/-- An instruction that combines a register or memory with an operand leaves `X`, `Y` and `SP`, moves `PC` past itself and pays its
cost (R305). -/
theorem exec_othersKept
    (hm : i.mnemonic ∈ [.adc, .sbc, .and, .ora, .eor, .cmp, .cpx, .cpy, .bit, .inc, .dec, .asl, .lsr, .rol, .ror])
    (h : exec i s = .next t) : othersKept i (extraOf i (fetched i.length s)) s t := by
  obtain ⟨hx, hy, hsp, hpc⟩ := operand_mnemonics _ hm
  obtain ⟨-, -, hkeepX, hkeepY, hkeepSp⟩ := registersHaveOnlyTheirWriters i s t h
  exact ⟨hkeepX hx, hkeepY hy, hkeepSp hsp, pcAdvancesByTheLength i s t h hpc, exec_accounted h⟩

/-- The fetch does not change whether decimal mode costs one tick more (R314). -/
theorem decimalExtra_fetched (n : Nat) : decimalExtra (fetched n s) = if s.flag .d = true then 1 else 0 := by
  simp [decimalExtra]

/-- Settles O30: the formulas by `decAdc_toNat` and `decSbc_toNat`, packed BCD by `decAdc_of_isBcd` and `decSbc_of_isBcd`, and the
flags of the corrected byte by `exec_correctedFlags`. -/
theorem decimalCorrectionsAreTheDigitFormulas : Obligations.DecimalCorrectionsAreTheDigitFormulas := by
  refine ⟨fun a m cin => ⟨⟨_, _, _, _, rfl, rfl, rfl, rfl, decAdc_toNat a m cin, decide_eq_true_iff⟩,
    ⟨_, _, _, rfl, rfl, rfl, decSbc_toNat a m cin _ rfl⟩⟩,
    fun a m cin ha hm => ⟨decAdc_of_isBcd a m cin ha hm, ?bcd⟩, fun o s t hd hsrc => ⟨fun h => ?adc, fun h => ?sbc⟩⟩
  case bcd =>
    obtain ⟨hbcd, hvalue⟩ := decSbc_of_isBcd a m cin ha hm
    exact ⟨hbcd, hvalue, noBorrow_of_isBcd a m cin ha hm⟩
  case adc => exact exec_correctedFlags hd hsrc h (ruleOf_adc o _ rfl rfl)
  case sbc => exact exec_correctedFlags hd hsrc h (ruleOf_sbc o _ rfl rfl)

/-- Settles O28: `A`, the flags and their source by `ruleOf_adc`, the rest by the laws of every instruction with an operand. -/
theorem adcAddsWithCarry : Obligations.AdcAddsWithCarry := by
  refine ⟨rows_opcodes .adc (fun _ => rfl) (fun _ => rfl) (fun _ => rfl), rfl, fun o s hw => ?_⟩
  obtain ⟨t, h⟩ := exec_of_wf hw s
  obtain ⟨ha, hc, hzn, hv⟩ := exec_addition h (ruleOf_adc o _ rfl rfl)
  refine ⟨t, h, ha, hc, fun hsrc => ?_, exec_flagsKept h,
    onlyStoresAndPushesChangeMemory _ s t h (.inl (by simp [Instr.mnemonic])),
    decimalExtra_fetched _ ▸ exec_othersKept (by simp [Instr.mnemonic]) h⟩
  rw [flagSource_eq_sum _ _ hsrc] at hzn hv
  exact ⟨hzn, hv⟩

/-- Settles O29: as O28 by `ruleOf_sbc`, the sum and the carry of the complement being the difference and "no borrow". -/
theorem sbcSubtractsWithBorrow : Obligations.SbcSubtractsWithBorrow := by
  refine ⟨rows_opcodes .sbc (fun _ => rfl) (fun _ => rfl) (fun _ => rfl), rfl, fun o s hw => ?_⟩
  obtain ⟨t, h⟩ := exec_of_wf hw s
  obtain ⟨ha, hc, hzn, hv⟩ := exec_addition h (ruleOf_sbc o _ rfl rfl)
  refine ⟨t, h, fun hd => ?_, fun hd => ?_, ?_, fun hsrc => ?_, exec_flagsKept h,
    onlyStoresAndPushesChangeMemory _ s t h (.inl (by simp [Instr.mnemonic])),
    decimalExtra_fetched _ ▸ exec_othersKept (by simp [Instr.mnemonic]) h⟩
  · rw [ha, hd, if_neg nofun, sumByte_complement]
  · rw [ha, if_pos hd]
  · rw [hc, decide_eq_true_iff, carry_complement_iff]
  · rw [flagSource_eq_sum _ _ hsrc] at hzn hv
    exact ⟨sumByte_complement _ _ _ ▸ hzn, hv⟩

/-- Where the compares stand in the tables by mnemonic. -/
theorem compare_mnemonics : ∀ m ∈ [Mnemonic.cmp, .cpx, .cpy], flagsWritten m = [.c, .z, .n] ∧
    m ∉ [.lda, .pla, .txa, .tya, .adc, .sbc, .and, .ora, .eor, .asl, .lsr, .rol, .ror] ∧
    m ∉ [.sta, .stx, .sty, .inc, .dec, .asl, .lsr, .rol, .ror, .pha, .php, .jsr, .brk] ∧
    m ∉ [.adc, .sbc, .bcc, .bcs, .beq, .bne, .bmi, .bpl, .bvc, .bvs] ∧
    m ∈ [.adc, .sbc, .and, .ora, .eor, .cmp, .cpx, .cpy, .bit, .inc, .dec, .asl, .lsr, .rol, .ror] := by
  decide

/-- The terms `mk o` are those of a compare, whose rule compares the register `r`, which no fetch changes, with the operand. -/
theorem compares_of_rule {mk : Operand → Instr} {r : State → Byte} (hm : ∀ o, (mk o).mnemonic ∈ [.cmp, .cpx, .cpy])
    (hrule : ∀ o u, ruleOf (mk o) u = compare (r u) (getValue o u) u) (hr : ∀ n s, r (fetched n s) = r s) : compares mk r := by
  intro o s hw
  obtain ⟨hflags, ha, hmem, hextra, hop⟩ := compare_mnemonics _ (hm o)
  obtain ⟨t, h⟩ := exec_of_wf hw s
  have hflag (f : Flag) : t.flag f = (compare (r s) (getValue o s) (fetched (mk o).length s)).flag f := by
    rw [exec_next h, tick_flag, hrule, hr, getValue_fetched]
  obtain ⟨hx, hy, hsp, hpc, hacc⟩ := exec_othersKept hop h
  obtain ⟨hkeepA, -⟩ := registersHaveOnlyTheirWriters _ s t h
  refine ⟨t, h, ?_, ?_, ?_, hflags ▸ exec_flagsKept h, ⟨hkeepA ha, hx, hy, hsp⟩, hpc,
    onlyStoresAndPushesChangeMemory _ s t h (.inl hmem), extraOf_eq_zero hextra ▸ hacc⟩
  · simp [hflag, compare_flag]
  · simp [hflag, compare_flag, BEq.beq]
  · simp [hflag, compare_flag, BitVec.msb_eq_getLsbD_last]

/-- Settles O31: the rows of the table by mnemonic, and each compare's rule by `compares_of_rule`. -/
theorem comparesSetCarryZeroSign : Obligations.ComparesSetCarryZeroSign :=
  ⟨rows_opcodes .cmp (fun _ => rfl) (fun _ => rfl) (fun _ => rfl), rows_opcodes .cpx (fun _ => rfl) (fun _ => rfl) (fun _ => rfl),
    rows_opcodes .cpy (fun _ => rfl) (fun _ => rfl) (fun _ => rfl), rfl,
    compares_of_rule (fun _ => by simp [Instr.mnemonic]) (fun _ _ => rfl) (fun _ _ => rfl),
    compares_of_rule (fun _ => by simp [Instr.mnemonic]) (fun _ _ => rfl) (fun _ _ => rfl),
    compares_of_rule (fun _ => by simp [Instr.mnemonic]) (fun _ _ => rfl) (fun _ _ => rfl)⟩

/-- Where INC and DEC stand in the tables by mnemonic: in modes with an effective address only. -/
theorem incDec_mnemonics : ∀ m ∈ [Mnemonic.inc, .dec],
    flagsWritten m = [.z, .n] ∧ (∀ k ∈ m.modes, k ∉ [.imp, .acc, .imm, .rel]) ∧
    m ∉ [.lda, .pla, .txa, .tya, .adc, .sbc, .and, .ora, .eor, .asl, .lsr, .rol, .ror] ∧
    m ∉ [.adc, .sbc, .bcc, .bcs, .beq, .bne, .bmi, .bpl, .bvc, .bvs] ∧
    m ∈ [.adc, .sbc, .and, .ora, .eor, .cmp, .cpx, .cpy, .bit, .inc, .dec, .asl, .lsr, .rol, .ror] := by
  decide

/-- The terms `mk o` are those of INC or DEC, whose rule puts `res` of the operand in its place and ends with `SetZN` of it. -/
theorem modifiesOperand_of_rule {mk : Operand → Instr} {res : Byte → Byte} (hm : ∀ o, (mk o).mnemonic ∈ [.inc, .dec])
    (hop : ∀ o, (mk o).operand = o) (hund : ∀ o, (mk o).undOpcode = none)
    (hrule : ∀ o u, ruleOf (mk o) u = setZN (res (getValue o u)) (putValue o (res (getValue o u)) u)) :
    modifiesOperand mk [.z, .n] (fun v _ => res v) := by
  intro o s hw
  obtain ⟨hflags, hmodes, ha, hextra, hopm⟩ := incDec_mnemonics _ (hm o)
  have hmode : (mk o).operand.mode ∉ [.imp, .acc, .imm, .rel] := hmodes _ ((wf_iff_mode_mem (hund o)).1 hw)
  rw [hop] at hmode
  obtain ⟨ea, hea⟩ := Option.ne_none_iff_exists'.1 (mt effAddr_eq_none_iff.1 hmode)
  obtain ⟨t, h⟩ := exec_of_wf hw s
  have hput := hrule o (fetched (mk o).length s)
  rw [getValue_fetched, putValue_of_effAddr _ ((effAddr_fetched s o _).trans hea)] at hput
  have hbyte : onlyByte ea (res (s.read ea)) s t := by
    rw [exec_next h, hput, getValue_of_effAddr hea]
    exact onlyByte_write ea _ (fetched _ s)
  obtain ⟨hkeepA, -⟩ := registersHaveOnlyTheirWriters _ s t h
  exact ⟨t, h, fun hacc => by simp [hacc, Operand.mode] at hmode, fun _ => ⟨hkeepA ha, ea, hea, hbyte⟩,
    exec_zeroSign h hput, hflags ▸ exec_flagsKept h, extraOf_eq_zero hextra ▸ exec_othersKept hopm h⟩

/-- Settles O32: the rows of the table by mnemonic, and both rules by `modifiesOperand_of_rule`. -/
theorem incAndDecChangeMemoryByOne : Obligations.IncAndDecChangeMemoryByOne :=
  ⟨rows_opcodes .inc (fun _ => rfl) (fun _ => rfl) (fun _ => rfl), rows_opcodes .dec (fun _ => rfl) (fun _ => rfl) (fun _ => rfl),
    rfl, rfl,
    modifiesOperand_of_rule (res := (· + 1)) (fun _ => by simp [Instr.mnemonic]) (fun _ => rfl) (fun _ => rfl) (fun _ _ => rfl),
    modifiesOperand_of_rule (res := (· - 1)) (fun _ => by simp [Instr.mnemonic]) (fun _ => rfl) (fun _ => rfl) (fun _ _ => rfl)⟩

/-- Where the index registers' steps stand in the tables by mnemonic. -/
theorem indexStep_mnemonics : ∀ m ∈ [Mnemonic.inx, .iny, .dex, .dey], flagsWritten m = [.z, .n] ∧
    m ∉ [.sta, .stx, .sty, .inc, .dec, .asl, .lsr, .rol, .ror, .pha, .php, .jsr, .brk] ∧
    m ∉ [.jmp, .jsr, .rts, .rti, .bcc, .bcs, .beq, .bne, .bmi, .bpl, .bvc, .bvs, .brk] ∧
    m ∉ [.adc, .sbc, .bcc, .bcs, .beq, .bne, .bmi, .bpl, .bvc, .bvs] := by
  decide

/-- A step of an index register, whose rule gives the registers of `u` and ends with `SetZN` of `v`, transfers `v`. -/
theorem transfers_of_indexStep {op : Byte} {v : State → Byte} {regs : State → State → Prop} (u : State → State)
    (hm : i.mnemonic ∈ [.inx, .iny, .dex, .dey]) (hw : i.wf = true) (henc : encode i = [op])
    (hrule : ∀ s, ruleOf i (fetched i.length s) = setZN (v s) (u s))
    (hregs : ∀ s t, registersKept (u s) t → regs s t ∧ t.sp = s.sp) : transfers i op v regs := by
  refine ⟨henc, fun s => ?_⟩
  obtain ⟨hflags, hmem, hpc, hextra⟩ := indexStep_mnemonics _ hm
  obtain ⟨t, h⟩ := exec_of_wf hw s
  have hkept : registersKept (u s) t := by
    rw [exec_next h, hrule]
    exact ⟨rfl, rfl, rfl, rfl⟩
  obtain ⟨hreg, hsp⟩ := hregs s t hkept
  have hlen : i.length = 1 := by rw [← (Laws.EncodedLength.of_operand i hw).1, henc, List.length_singleton]
  have hpast := pcAdvancesByTheLength i s t h hpc
  rw [past, hlen] at hpast
  exact ⟨t, h, hreg, hsp, exec_zeroSign h (hrule s), hflags ▸ exec_flagsKept h, hpast,
    onlyStoresAndPushesChangeMemory i s t h (.inl hmem), extraOf_eq_zero hextra ▸ exec_accounted h⟩

/-- Settles O33: each register's rule by `transfers_of_indexStep`. -/
theorem indexRegistersChangeByOne : Obligations.IndexRegistersChangeByOne :=
  ⟨transfers_of_indexStep (fun s => (fetched 1 s).setX (s.x + 1)) (by decide) rfl rfl (fun _ => rfl)
      (fun _ _ ⟨ha, hx, hy, hsp⟩ => ⟨⟨hx, ha, hy⟩, hsp⟩),
    transfers_of_indexStep (fun s => (fetched 1 s).setY (s.y + 1)) (by decide) rfl rfl (fun _ => rfl)
      (fun _ _ ⟨ha, hx, hy, hsp⟩ => ⟨⟨hy, ha, hx⟩, hsp⟩),
    transfers_of_indexStep (fun s => (fetched 1 s).setX (s.x - 1)) (by decide) rfl rfl (fun _ => rfl)
      (fun _ _ ⟨ha, hx, hy, hsp⟩ => ⟨⟨hx, ha, hy⟩, hsp⟩),
    transfers_of_indexStep (fun s => (fetched 1 s).setY (s.y - 1)) (by decide) rfl rfl (fun _ => rfl)
      (fun _ _ ⟨ha, hx, hy, hsp⟩ => ⟨⟨hy, ha, hx⟩, hsp⟩)⟩

end Sys2Proof.Machine
end

section
/-! SUPPORT. The instructions of 44_logic_shift (R170 to R177): the accumulator's bitwise operations, BIT, and the shifts and
rotates, whose results in numbers come first. -/

namespace Sys2Proof.Machine
open Sys2Proof.Claims

variable {s t : State}

/-- Where AND, ORA and EOR stand in the tables by mnemonic. -/
theorem logic_mnemonics : ∀ m ∈ [Mnemonic.and, .ora, .eor], flagsWritten m = [.z, .n] ∧
    m ∉ [.sta, .stx, .sty, .inc, .dec, .asl, .lsr, .rol, .ror, .pha, .php, .jsr, .brk] ∧
    m ∉ [.adc, .sbc, .bcc, .bcs, .beq, .bne, .bmi, .bpl, .bvc, .bvs] ∧
    m ∈ [.adc, .sbc, .and, .ora, .eor, .cmp, .cpx, .cpy, .bit, .inc, .dec, .asl, .lsr, .rol, .ror] := by
  decide

/-- The terms `mk o` are those of AND, ORA or EOR, whose rule puts `f` of `A` and the operand in `A` and ends with `SetZN` of it. -/
theorem loadsA_of_rule {mk : Operand → Instr} {f : Byte → Byte → Byte} (hm : ∀ o, (mk o).mnemonic ∈ [.and, .ora, .eor])
    (hrule : ∀ o u, ruleOf (mk o) u = setZN (f u.a (getValue o u)) (u.setA (f u.a (getValue o u)))) :
    loadsA mk (fun o s => f s.a (getValue o s)) := by
  intro o s hw
  obtain ⟨hflags, hmem, hextra, hop⟩ := logic_mnemonics _ (hm o)
  obtain ⟨t, h⟩ := exec_of_wf hw s
  have hfill := hrule o (fetched (mk o).length s)
  rw [getValue_fetched, fetched_a] at hfill
  have ha : t.a = f s.a (getValue o s) := by
    rw [exec_next h, hfill, tick_a, setZN_a, State.setA_a]
  exact ⟨t, h, ha, exec_zeroSign h hfill, hflags ▸ exec_flagsKept h, onlyStoresAndPushesChangeMemory _ s t h (.inl hmem),
    extraOf_eq_zero hextra ▸ exec_othersKept hop h⟩

/-- Settles O34: the rows of the table by mnemonic, and each rule by `loadsA_of_rule`. -/
theorem logicIsBitwise : Obligations.LogicIsBitwise :=
  ⟨rows_opcodes .and (fun _ => rfl) (fun _ => rfl) (fun _ => rfl), rows_opcodes .ora (fun _ => rfl) (fun _ => rfl) (fun _ => rfl),
    rows_opcodes .eor (fun _ => rfl) (fun _ => rfl) (fun _ => rfl), rfl, rfl, rfl,
    loadsA_of_rule (f := (· &&& ·)) (fun _ => by simp [Instr.mnemonic]) (fun _ _ => rfl),
    loadsA_of_rule (f := (· ||| ·)) (fun _ => by simp [Instr.mnemonic]) (fun _ _ => rfl),
    loadsA_of_rule (f := (· ^^^ ·)) (fun _ => by simp [Instr.mnemonic]) (fun _ _ => rfl)⟩

/-- The three flags BIT writes: Z from the AND, N and V from the operand alone (R173). -/
theorem bitTest_writtenFlags (m : Byte) (s : State) :
    (bitTest m s).flag .z = decide (s.a &&& m = 0) ∧ (bitTest m s).flag .n = m.getLsbD 7 ∧
      (bitTest m s).flag .v = m.getLsbD 6 := by
  simp [bitTest, BEq.beq]

/-- Settles O35: the flags by `bitTest_writtenFlags`, the rest by the laws of every instruction with an operand. -/
theorem bitTestReadsThreeFlags : Obligations.BitTestReadsThreeFlags := by
  refine ⟨rows_opcodes .bit (fun _ => rfl) (fun _ => rfl) (fun _ => rfl), fun o s hw => ?_⟩
  obtain ⟨t, h⟩ := exec_of_wf hw s
  have hflag (f : Flag) : t.flag f = (bitTest (getValue o s) (fetched (Instr.bit o).length s)).flag f := by
    rw [exec_next h, tick_flag, ruleOf, getValue_fetched]
  obtain ⟨hz, hn, hv⟩ := bitTest_writtenFlags (getValue o s) (fetched (Instr.bit o).length s)
  obtain ⟨hx, hy, hsp, hpc, hacc⟩ := exec_othersKept (by simp [Instr.mnemonic]) h
  obtain ⟨hkeepA, -⟩ := registersHaveOnlyTheirWriters _ s t h
  exact ⟨t, h, (hflag .z).trans hz, (hflag .n).trans hn, (hflag .v).trans hv, exec_flagsKept h,
    ⟨hkeepA (by simp [Instr.mnemonic]), hx, hy, hsp⟩, hpc,
    onlyStoresAndPushesChangeMemory _ s t h (.inl (by simp [Instr.mnemonic])), hacc⟩

/-- A left shift doubles modulo 256 (R174). -/
theorem shiftLeft_one (v : Byte) : v <<< 1 = BitVec.ofNat 8 (2 * v.toNat) := by
  bv_omega

/-- A right shift halves (R175). -/
theorem shiftRight_one (v : Byte) : v >>> 1 = BitVec.ofNat 8 (v.toNat / 2) := by
  bv_omega

/-- The carry ROL puts in is worth 1 (R176). -/
theorem carryAt_zero_toNat (s : State) : (carryAt 0 s).toNat = (s.flag .c).toNat := by
  rw [carryAt]
  cases s.flag .c <;> rfl

/-- The carry ROR puts in is worth 128 (R177). -/
theorem carryAt_seven_toNat (s : State) : (carryAt 7 s).toNat = 128 * (s.flag .c).toNat := by
  rw [carryAt]
  cases s.flag .c <;> rfl

/-- A left shift leaves bit 0 free, so the carry put there is added (R176). -/
theorem shiftLeft_or_carryAt (v : Byte) (s : State) :
    (v <<< 1) ||| carryAt 0 s = BitVec.ofNat 8 (2 * v.toNat + (s.flag .c).toNat) := by
  have hc := (s.flag .c).toNat_lt
  have heven : (v <<< 1).toNat = 2 ^ 1 * (v.toNat % 128) := by bv_omega
  apply BitVec.eq_of_toNat_eq
  rw [BitVec.toNat_or, carryAt_zero_toNat, heven, ← Nat.two_pow_add_eq_or_of_lt hc, BitVec.toNat_ofNat]
  omega

/-- A right shift leaves bit 7 free, so the carry put there is added (R177). -/
theorem shiftRight_or_carryAt (v : Byte) (s : State) :
    (v >>> 1) ||| carryAt 7 s = BitVec.ofNat 8 (v.toNat / 2 + 128 * (s.flag .c).toNat) := by
  have hc := (s.flag .c).toNat_lt
  have hhalf : (v >>> 1).toNat = v.toNat / 2 := by bv_omega
  have hlow : v.toNat / 2 < 2 ^ 7 := by bv_omega
  apply BitVec.eq_of_toNat_eq
  rw [BitVec.toNat_or, carryAt_seven_toNat, hhalf, Nat.or_comm, ← Nat.two_pow_add_eq_or_of_lt hlow, BitVec.toNat_ofNat]
  omega

/-- The rule of the terms `mk o` puts `res` of the operand and the carry in the operand's place, `out` of the operand into C, and
ends with `SetZN`: what the four shifts and rotates have in common. -/
def shiftsBy (mk : Operand → Instr) (res : Byte → Bool → Byte) (out : Byte → Bool) : Prop :=
  ∀ o s, ruleOf (mk o) s = shiftTo o (res (getValue o s) (s.flag .c)) (out (getValue o s)) s

theorem shiftsBy_asl : shiftsBy .asl (fun v _ => BitVec.ofNat 8 (2 * v.toNat)) (fun v => v.getLsbD 7) :=
  fun o s => by rw [ruleOf, shiftLeft_one]

theorem shiftsBy_lsr : shiftsBy .lsr (fun v _ => BitVec.ofNat 8 (v.toNat / 2)) (fun v => v.getLsbD 0) :=
  fun o s => by rw [ruleOf, shiftRight_one]

theorem shiftsBy_rol : shiftsBy .rol (fun v c => BitVec.ofNat 8 (2 * v.toNat + c.toNat)) (fun v => v.getLsbD 7) :=
  fun o s => by rw [ruleOf, shiftLeft_or_carryAt]

theorem shiftsBy_ror : shiftsBy .ror (fun v c => BitVec.ofNat 8 (v.toNat / 2 + 128 * c.toNat)) (fun v => v.getLsbD 0) :=
  fun o s => by rw [ruleOf, shiftRight_or_carryAt]

/-- A shift writes its result where the operand was and nothing else of memory (R115). -/
theorem shiftTo_read (o : Operand) (r : Byte) (out : Bool) (s : State) (q : Addr) :
    (shiftTo o r out s).read q = if effAddr o s = some q then r else s.read q := by
  rw [shiftTo, setZN_read, putValue_read, effAddr_setFlag]
  rfl

/-- The bit shifted out is in C: nothing after it writes C (R174 to R177). -/
theorem shiftTo_flag_c (o : Operand) (r : Byte) (out : Bool) (s : State) : (shiftTo o r out s).flag .c = out := by
  simp [shiftTo, setZN_flag]

/-- Where the shifts and rotates stand in the tables by mnemonic: in mode acc and modes with an effective address. -/
theorem shift_mnemonics : ∀ m ∈ [Mnemonic.asl, .lsr, .rol, .ror],
    flagsWritten m = [.c, .z, .n] ∧ (∀ k ∈ m.modes, k ∉ [.imp, .imm, .rel]) ∧
    m ∉ [.adc, .sbc, .bcc, .bcs, .beq, .bne, .bmi, .bpl, .bvc, .bvs] ∧
    m ∈ [.adc, .sbc, .and, .ora, .eor, .cmp, .cpx, .cpy, .bit, .inc, .dec, .asl, .lsr, .rol, .ror] := by
  decide

/-- The accumulator is the one operand of mode acc (R102). -/
theorem mode_eq_acc_iff {o : Operand} : o.mode = .acc ↔ o = .acc := by
  cases o <;> simp [Operand.mode]

/-- Every operand but the accumulator that a shift or rotate can have is the byte at an effective address. -/
theorem effAddr_of_shift {i : Instr} (hm : i.mnemonic ∈ [.asl, .lsr, .rol, .ror]) (hund : i.undOpcode = none)
    (hw : i.wf = true) (hacc : i.operand ≠ .acc) : ∃ ea, effAddr i.operand s = some ea := by
  obtain ⟨-, hmodes, -⟩ := shift_mnemonics _ hm
  have hmode := hmodes _ ((wf_iff_mode_mem hund).1 hw)
  have hmodeAcc : i.operand.mode ≠ .acc := mt mode_eq_acc_iff.1 hacc
  exact Option.ne_none_iff_exists'.1 (mt effAddr_eq_none_iff.1 (by simp_all))

variable {mk : Operand → Instr} {res : Byte → Bool → Byte} {out : Byte → Bool}

/-- The fetch changes neither the operand nor the carry. -/
theorem ruleOf_fetched_of_shiftsBy (hrule : shiftsBy mk res out) (o : Operand) (n : Nat) (s : State) :
    ruleOf (mk o) (fetched n s) =
      shiftTo o (res (getValue o s) (s.flag .c)) (out (getValue o s)) (fetched n s) := by
  rw [hrule, getValue_fetched, fetched_flag, if_neg (by decide)]

/-- C is the bit moved out, in whichever mode (R174 to R177). -/
theorem carriesOut_of_shiftsBy (hrule : shiftsBy mk res out) : carriesOut mk out := by
  intro o s t h
  rw [exec_next h, ruleOf_fetched_of_shiftsBy hrule, tick_flag, shiftTo_flag_c]

/-- The result goes to `A` in mode acc, where `effAddr` names no byte, else to the byte at the effective address (R174 to R177). -/
theorem modifiesOperand_of_shiftsBy (hrule : shiftsBy mk res out)
    (hm : ∀ o, (mk o).mnemonic ∈ [.asl, .lsr, .rol, .ror]) (hop : ∀ o, (mk o).operand = o)
    (hund : ∀ o, (mk o).undOpcode = none) : modifiesOperand mk [.c, .z, .n] res := by
  intro o s hw
  obtain ⟨hflags, -, hextra, hopm⟩ := shift_mnemonics _ (hm o)
  obtain ⟨t, h⟩ := exec_of_wf hw s
  have hput := ruleOf_fetched_of_shiftsBy hrule o (mk o).length s
  have ha : t.a = if o = .acc then res (getValue o s) (s.flag .c) else s.a := by
    rw [exec_next h, tick_a, hput]
    simp
  have hread (q : Addr) : t.read q = if effAddr o s = some q then res (getValue o s) (s.flag .c) else s.read q := by
    rw [exec_next h, tick_read, hput, shiftTo_read, effAddr_fetched, fetched_read]
  refine ⟨t, h, fun hacc => ?acc, fun hacc => ?mem, exec_zeroSign h hput, hflags ▸ exec_flagsKept h,
    extraOf_eq_zero hextra ▸ exec_othersKept hopm h⟩
  case acc =>
    subst hacc
    exact ⟨ha, hread⟩
  case mem =>
    obtain ⟨ea, hea⟩ := effAddr_of_shift (s := s) (hm o) (hund o) hw (by rwa [hop])
    rw [hop] at hea
    refine ⟨ha.trans (if_neg hacc), ea, hea, ?_, fun q hq => ?_⟩
    · rw [hread, if_pos hea, getValue_of_effAddr hea]
    · rw [hread, hea, if_neg (by simpa using hq.symm)]

/-- The result of LSR has bit 7 clear (R175). -/
theorem exec_lsr_flag_n {o : Operand} (h : exec (.lsr o) s = .next t) : t.flag .n = false := by
  obtain ⟨-, hn⟩ := exec_zeroSign h (v := getValue o (fetched _ s) >>> 1) rfl
  rw [hn]
  simp

/-- Settles O36: the results in numbers by the `shiftsBy` of each rule, their consequences by `modifiesOperand_of_shiftsBy`
and `carriesOut_of_shiftsBy`. -/
theorem shiftsAndRotatesMoveOneBit : Obligations.ShiftsAndRotatesMoveOneBit :=
  ⟨rows_opcodes .asl (fun _ => rfl) (fun _ => rfl) (fun _ => rfl), rows_opcodes .lsr (fun _ => rfl) (fun _ => rfl) (fun _ => rfl),
    rfl, rfl,
    modifiesOperand_of_shiftsBy shiftsBy_asl (fun _ => by simp [Instr.mnemonic]) (fun _ => rfl) (fun _ => rfl),
    carriesOut_of_shiftsBy shiftsBy_asl,
    modifiesOperand_of_shiftsBy shiftsBy_lsr (fun _ => by simp [Instr.mnemonic]) (fun _ => rfl) (fun _ => rfl),
    carriesOut_of_shiftsBy shiftsBy_lsr, fun _ _ _ => exec_lsr_flag_n,
    rows_opcodes .rol (fun _ => rfl) (fun _ => rfl) (fun _ => rfl), rows_opcodes .ror (fun _ => rfl) (fun _ => rfl) (fun _ => rfl),
    rfl, rfl,
    modifiesOperand_of_shiftsBy shiftsBy_rol (fun _ => by simp [Instr.mnemonic]) (fun _ => rfl) (fun _ => rfl),
    carriesOut_of_shiftsBy shiftsBy_rol,
    modifiesOperand_of_shiftsBy shiftsBy_ror (fun _ => by simp [Instr.mnemonic]) (fun _ => rfl) (fun _ => rfl),
    carriesOut_of_shiftsBy shiftsBy_ror⟩

end Sys2Proof.Machine
end

section
/-! SUPPORT. The control transfers (45_control_flow R190 to R201): what all of them leave alone, what those that leave the stack
alone have in common, the word JSR pushes and RTS pulls, and the one rule of the eight branches. -/

namespace Sys2Proof.Machine
open Sys2Proof.Claims

variable {i : Instr} {s t : State}

/-- Where the control transfers of 45_control_flow stand in the tables by mnemonic. -/
theorem transfer_mnemonics : ∀ m ∈ [Mnemonic.jsr, .rts, .jmp, .bcc, .bcs, .beq, .bne, .bmi, .bpl, .bvc, .bvs],
    flagsWritten m = [] ∧ m ∉ [.lda, .pla, .txa, .tya, .adc, .sbc, .and, .ora, .eor, .asl, .lsr, .rol, .ror] ∧
    m ∉ [.ldx, .tax, .tsx, .inx, .dex] ∧ m ∉ [.ldy, .tay, .iny, .dey] := by
  decide

/-- Every control transfer leaves `A`, `X`, `Y` and the flags as before and pays its cost (R190 to R193). -/
theorem exec_transfer (hm : i.mnemonic ∈ [.jsr, .rts, .jmp, .bcc, .bcs, .beq, .bne, .bmi, .bpl, .bvc, .bvs])
    (h : exec i s = .next t) :
    t.a = s.a ∧ t.x = s.x ∧ t.y = s.y ∧ flagsKept [] s t ∧ accounted i (extraOf i (fetched i.length s)) s t := by
  obtain ⟨hflags, ha, hx, hy⟩ := transfer_mnemonics _ hm
  obtain ⟨hkeepA, -, hkeepX, hkeepY, -⟩ := registersHaveOnlyTheirWriters i s t h
  exact ⟨hkeepA ha, hkeepX hx, hkeepY hy, hflags ▸ exec_flagsKept h, exec_accounted h⟩

/-- JMP and the branches use neither the stack nor memory. -/
theorem jump_mnemonics : ∀ m ∈ [Mnemonic.jmp, .bcc, .bcs, .beq, .bne, .bmi, .bpl, .bvc, .bvs],
    m ∉ [.txs, .pha, .php, .pla, .plp, .jsr, .rts, .brk, .rti] ∧
    m ∉ [.sta, .stx, .sty, .inc, .dec, .asl, .lsr, .rol, .ror, .pha, .php, .jsr, .brk] := by
  decide

/-- JMP and the branches change nothing but `PC` and what every step does (R190, R193). -/
theorem exec_jump (hm : i.mnemonic ∈ [.jmp, .bcc, .bcs, .beq, .bne, .bmi, .bpl, .bvc, .bvs]) (h : exec i s = .next t) :
    registersKept s t ∧ flagsKept [] s t ∧ memoryKept s t ∧ accounted i (extraOf i (fetched i.length s)) s t := by
  obtain ⟨hsp, hmem⟩ := jump_mnemonics _ hm
  obtain ⟨-, -, -, -, hkeepSp⟩ := registersHaveOnlyTheirWriters i s t h
  obtain ⟨ha, hx, hy, hflags, hacc⟩ := exec_transfer (List.mem_append_right [.jsr, .rts] hm) h
  exact ⟨⟨ha, hx, hy, hkeepSp hsp⟩, hflags, onlyStoresAndPushesChangeMemory i s t h (.inl hmem), hacc⟩

/-- Both modes of JMP have an effective address (R108, R111). -/
theorem effAddr_of_jmp {o : Operand} (hw : (Instr.jmp o).wf = true) (s : State) : ∃ ea, effAddr o s = some ea := by
  cases o
  case abs | ind => exact ⟨_, rfl⟩
  all_goals cases hw

/-- JMP loads `PC` with the effective address (R190). -/
theorem exec_jmp_pc {o : Operand} {ea : Addr} (h : exec (.jmp o) s = .next t) (hea : effAddr o s = some ea) : t.pc = ea := by
  rw [exec_next h, tick_pc, ruleOf, effAddr_fetched, hea, State.setPc_pc, Option.getD_some]

/-- Settles O37: the effective address is the operand in mode abs, the word at it, within the pointer's page, in mode ind. -/
theorem jmpLoadsThePc : Obligations.JmpLoadsThePc := by
  refine ⟨rows_opcodes .jmp (fun _ => rfl) (fun _ => rfl) (fun _ => rfl), fun o s hw => ?keeps,
    fun w s t h => exec_jmp_pc h rfl, fun s t h => ?indirect⟩
  case keeps =>
    obtain ⟨ea, hea⟩ := effAddr_of_jmp hw s
    obtain ⟨t, h⟩ := exec_of_wf hw s
    exact ⟨t, ea, h, hea, exec_jmp_pc h hea, exec_jump (by simp [Instr.mnemonic]) h⟩
  case indirect =>
    have hnext : nextInPage 0x02FF = 0x0200 := by decide
    rw [exec_jmp_pc h rfl, lo_word16, hi_word16, hnext]
    exact ⟨rfl, rfl⟩

/-- JSR goes to its operand and leaves the stack and memory as a push of the address of its own last byte does (R191). -/
theorem exec_jsr {w : Addr} (h : exec (.jsr w) s = .next t) :
    t.pc = w ∧ t.sp = (push16 (s.pc + 2) s).sp ∧ ∀ q, t.read q = (push16 (s.pc + 2) s).read q := by
  have hlast : (fetched (Instr.jsr w).length s).pc - 1 = s.pc + 2 := by
    change s.pc + 3 - 1 = s.pc + 2
    bv_omega
  rw [exec_next h, ruleOf, hlast]
  exact ⟨rfl, rfl, fun _ => rfl⟩

/-- Settles O38: the places and bytes of the pushed word by the laws of `push16`, the rest by the laws of every control transfer. -/
theorem jsrPushesItsLastByte : Obligations.JsrPushesItsLastByte := by
  refine fun w s => ⟨rfl, ?_⟩
  obtain ⟨t, h⟩ := exec_of_wf (i := .jsr w) rfl s
  obtain ⟨hpc, hsp, hread⟩ := exec_jsr h
  have htwo : t.sp = s.sp - 2 := by
    rw [hsp, push16_sp]
    bv_omega
  have hrest (q : Addr) (hhigh : q ≠ stackAddr s.sp) (hlow : q ≠ stackAddr (s.sp - 1)) : t.read q = s.read q := by
    rw [hread, push16_read, if_neg hlow, if_neg hhigh]
  exact ⟨t, h, hpc, htwo, (hread _).trans (push16_read_high s _), (hread _).trans (push16_read_low s _), hrest,
    exec_transfer (by simp [Instr.mnemonic]) h⟩

/-- RTS pulls a word and goes on one past it (R192). -/
theorem exec_rts (h : exec .rts s = .next t) : t.pc = (pull16 s).1 + 1 ∧ t.sp = (pull16 s).2.sp := by
  rw [exec_next h]
  exact ⟨rfl, rfl⟩

/-- Settles O39: the pulled word's bytes by `pull16_eq`, the rest by the laws of every control transfer. -/
theorem rtsReturnsPastThePulledWord : Obligations.RtsReturnsPastThePulledWord := by
  refine ⟨rfl, fun s => ?_⟩
  obtain ⟨t, h⟩ := exec_of_wf (i := .rts) rfl s
  obtain ⟨hpc, hsp⟩ := exec_rts h
  obtain ⟨ha, hx, hy, hflags, hacc⟩ := exec_transfer (by decide) h
  have htwo : s.sp + 1 + 1 = s.sp + 2 := BitVec.add_assoc s.sp 1 1
  have hmem : memoryKept s t := onlyStoresAndPushesChangeMemory _ s t h (.inl (by decide))
  rw [pull16_eq, htwo] at hpc hsp
  exact ⟨t, _, h, lo_word16 _ _, hi_word16 _ _, hpc, hsp, ha, hx, hy, hflags, hmem, hacc⟩

/-- A pulled word depends only on `SP` and the two bytes above it (R61). -/
theorem pull16_congr {u v : State} (hsp : u.sp = v.sp)
    (hlow : u.read (stackAddr (v.sp + 1)) = v.read (stackAddr (v.sp + 1)))
    (hhigh : u.read (stackAddr (v.sp + 1 + 1)) = v.read (stackAddr (v.sp + 1 + 1))) :
    (pull16 u).1 = (pull16 v).1 ∧ (pull16 u).2.sp = (pull16 v).2.sp := by
  rw [pull16_eq, pull16_eq, hsp, hlow, hhigh]
  exact ⟨rfl, rfl⟩

/-- Settles O40: what RTS pulls from `u` is what it would pull right after the push, and that is the pushed word. -/
theorem jsrThenRtsReturns : Obligations.JsrThenRtsReturns := by
  intro w s t u v hjsr husp hhigh hlow hrts
  obtain ⟨-, htsp, htread⟩ := exec_jsr hjsr
  obtain ⟨hvpc, hvsp⟩ := exec_rts hrts
  obtain ⟨hword, hsp⟩ := pull16_congr (husp.trans htsp)
    (by rw [push16_sp_add_one, hlow, htread]) (by rw [push16_sp_add_one_add_one, hhigh, htread])
  rw [pull16_push16] at hword hsp
  rw [hvpc, hvsp, hword]
  exact ⟨BitVec.add_assoc s.pc 2 1, hsp⟩

/-- A taken branch goes to its target, one not taken goes on (R193). -/
theorem branchTo_pc (off : Byte) (taken : Bool) (s : State) :
    (branchTo off taken s).pc = if taken = true then s.pc + branchOffset off else s.pc := by
  cases taken <;> rfl

/-- The terms `mk off` are those of a branch with opcode `op`, whose rule and extra cost test whether the flag `f` is `v`; the fetch
changes no such flag but the Constant flag, which no branch tests. -/
theorem branchesOn_of_rule {mk : Byte → Instr} {op : Byte} {f : Flag} {v : Bool}
    (hm : ∀ off, (mk off).mnemonic ∈ [.bcc, .bcs, .beq, .bne, .bmi, .bpl, .bvc, .bvs]) (hw : ∀ off, (mk off).wf = true)
    (henc : ∀ off, encode (mk off) = [op, off]) (hf : f ≠ .u)
    (hrule : ∀ off u, ruleOf (mk off) u = branchTo off (decide (u.flag f = v)) u)
    (hextra : ∀ off u, extraOf (mk off) u = branchExtra (decide (u.flag f = v)) off u) : branchesOn mk op f v := by
  refine fun off s => ⟨henc off, ?_⟩
  obtain ⟨t, h⟩ := exec_of_wf (hw off) s
  have hlen : (mk off).length = 2 := by
    rw [← (Laws.EncodedLength.of_operand _ (hw off)).1, henc]
    rfl
  have hflag : (fetched 2 s).flag f = s.flag f := by rw [fetched_flag, if_neg hf]
  have hpc : t.pc = if s.flag f = v then s.pc + 2 + off.signExtend 16 else s.pc + 2 := by
    rw [exec_next h, tick_pc, hlen, hrule, branchTo_pc, hflag]
    simp only [decide_eq_true_iff]
    rfl
  have hcost : extraOf (mk off) (fetched (mk off).length s) =
      if s.flag f = v then (if hi (s.pc + 2 + off.signExtend 16) = hi (s.pc + 2) then 1 else 2) else 0 := by
    rw [hlen, hextra, branchExtra, hflag]
    simp only [decide_eq_true_iff]
    rfl
  exact ⟨t, _, h, hpc, hcost, exec_jump (List.mem_cons_of_mem .jmp (hm off)) h⟩

/-- Settles O41: each branch's rule and extra cost test the flag its row names; the rest is `branchesOn_of_rule`. -/
theorem branchesTestOneFlag : Obligations.BranchesTestOneFlag := by
  refine ⟨?bcc, ?bcs, ?beq, ?bne, ?bmi, ?bpl, ?bvc, ?bvs⟩
  all_goals
    exact branchesOn_of_rule (fun _ => by simp [Instr.mnemonic]) (fun _ => rfl) (fun _ => rfl) (by decide)
      (fun _ _ => by simp [ruleOf]) (fun _ _ => by simp [extraOf])

end Sys2Proof.Machine
end

section
/-! SUPPORT. The flag instructions, NOP, BRK and RTI (46_flags_system R210 to R219): what the instructions that write at most a
flag have in common, what taking a trap leaves on the stack and in `PC`, and the statements about them. -/

namespace Sys2Proof.Machine
open Sys2Proof.Claims

variable {i : Instr} {s t : State}

/-- A one-byte instruction ends at the next address. -/
theorem past_of_encode_singleton {op : Byte} (hw : i.wf = true) (henc : encode i = [op]) : past i s = s.pc + 1 := by
  have hlen : i.length = 1 := by rw [← (Laws.EncodedLength.of_operand i hw).1, henc, List.length_singleton]
  rw [past, hlen]
  rfl

/-- Where the flag instructions and the no-ops stand in the tables by mnemonic. -/
theorem flagOnly_mnemonics : ∀ m ∈ [Mnemonic.clc, .sec, .cli, .sei, .clv, .cld, .sed, .nop, .und],
    m ∉ [.lda, .pla, .txa, .tya, .adc, .sbc, .and, .ora, .eor, .asl, .lsr, .rol, .ror] ∧
    m ∉ [.ldx, .tax, .tsx, .inx, .dex] ∧ m ∉ [.ldy, .tay, .iny, .dey] ∧
    m ∉ [.txs, .pha, .php, .pla, .plp, .jsr, .rts, .brk, .rti] ∧
    m ∉ [.jmp, .jsr, .rts, .rti, .bcc, .bcs, .beq, .bne, .bmi, .bpl, .bvc, .bvs, .brk] ∧
    m ∉ [.sta, .stx, .sty, .inc, .dec, .asl, .lsr, .rol, .ror, .pha, .php, .jsr, .brk] ∧
    m ∉ [.adc, .sbc, .bcc, .bcs, .beq, .bne, .bmi, .bpl, .bvc, .bvs] := by
  decide

/-- The flag instructions and the no-ops write no register but `PC`, which goes past them, and no memory, and pay their base cost
(R210 to R217, R230). -/
theorem exec_flagOnly (hm : i.mnemonic ∈ [.clc, .sec, .cli, .sei, .clv, .cld, .sed, .nop, .und]) (h : exec i s = .next t) :
    registersKept s t ∧ t.pc = past i s ∧ memoryKept s t ∧ accounted i 0 s t := by
  obtain ⟨ha, hx, hy, hsp, hpc, hmem, hextra⟩ := flagOnly_mnemonics _ hm
  obtain ⟨hkeepA, -, hkeepX, hkeepY, hkeepSp⟩ := registersHaveOnlyTheirWriters i s t h
  exact ⟨⟨hkeepA ha, hkeepX hx, hkeepY hy, hkeepSp hsp⟩, pcAdvancesByTheLength i s t h hpc,
    onlyStoresAndPushesChangeMemory i s t h (.inl hmem), extraOf_eq_zero hextra ▸ exec_accounted h⟩

/-- A one-byte instruction whose rule sets the flag `f` to `v` writes that flag and nothing else. -/
theorem writesFlag_of_rule {op : Byte} {f : Flag} {v : Bool} (hm : i.mnemonic ∈ [.clc, .sec, .cli, .sei, .clv, .cld, .sed])
    (hw : i.wf = true) (henc : encode i = [op]) (hflags : flagsWritten i.mnemonic = [f])
    (hrule : ∀ u, ruleOf i u = u.setFlag f v) : writesFlag i op f v := by
  refine ⟨henc, fun s => ?_⟩
  obtain ⟨t, h⟩ := exec_of_wf hw s
  have hflag : t.flag f = v := by rw [exec_next h, tick_flag, hrule, State.flag_setFlag, if_pos rfl]
  obtain ⟨hregs, hpc, hmem, hacc⟩ := exec_flagOnly (List.mem_append_left [.nop, .und] hm) h
  exact ⟨t, h, hflag, hflags ▸ exec_flagsKept h, hregs, hpc.trans (past_of_encode_singleton hw henc), hmem, hacc⟩

/-- Settles O42: each flag instruction's rule by `writesFlag_of_rule`; NOP writes no flag, the rest of it is `exec_flagOnly`. -/
theorem flagInstructionsWriteOneBitAndNopNone : Obligations.FlagInstructionsWriteOneBitAndNopNone := by
  refine ⟨?clc, ?sec, ?cli, ?sei, ?clv, ?cld, ?sed, rfl, fun s => ?nop⟩
  case nop =>
    obtain ⟨t, h⟩ := exec_of_wf (i := .nop) rfl s
    obtain ⟨hregs, hpc, hmem, hacc⟩ := exec_flagOnly (by decide) h
    exact ⟨t, h, hregs, hpc, exec_flagsKept h, hmem, hacc⟩
  all_goals exact writesFlag_of_rule (by decide) rfl rfl rfl (fun _ => rfl)

/-- Taking a trap leaves `PC` and the status, with bit 4 set for BRK, on the stack (R241). -/
theorem trapEnter_frame (vec : Addr) (brk : Bool) (s : State) :
    frameAt s.sp s.pc (if brk = true then s.p ||| 0x10 else s.p) s (trapEnter vec brk s) := by
  obtain ⟨-, -, -, hsp, -⟩ := trapEnter_fields s vec brk
  have hsp3 : s.sp - 1 - 1 - 1 = s.sp - 3 := by bv_omega
  have hsp2 : s.sp - 1 - 1 = s.sp - 2 := by bv_omega
  have hhigh2 : s.sp ≠ s.sp - 2 := by bv_omega
  have hhigh1 : s.sp ≠ s.sp - 1 := by bv_omega
  have hlow2 : s.sp - 1 ≠ s.sp - 2 := by bv_omega
  refine ⟨hsp.trans hsp3, ?high, ?low, ?status, fun q hq hq1 hq2 => ?rest⟩ <;> rw [trapEnter_read, hsp2]
  case high => rw [if_neg (mt stackAddr_inj.1 hhigh2), if_neg (mt stackAddr_inj.1 hhigh1), if_pos rfl]
  case low => rw [if_neg (mt stackAddr_inj.1 hlow2), if_pos rfl]
  case status => rw [if_pos rfl]
  case rest => rw [if_neg hq2, if_neg hq1, if_neg hq]

/-- The pushes of a trap lie in page 1, so a vector outside it is the word that stood there before (R241). -/
theorem trapEnter_pc_of_vector {vec : Addr} (hlow : hi vec ≠ Config.stackPage) (hhigh : hi (vec + 1) ≠ Config.stackPage)
    (brk : Bool) (s : State) : (trapEnter vec brk s).pc = s.read16 vec := by
  have hread {q : Addr} (hq : hi q ≠ Config.stackPage) : (trapEnter vec brk s).read q = s.read q := by
    have hne (k : Byte) : q ≠ stackAddr k := fun e => hq (e ▸ hi_stackAddr k)
    rw [trapEnter_read, if_neg (hne _), if_neg (hne _), if_neg (hne _)]
  rw [trapEnter_pc, State.read16, hread hlow, hread hhigh, State.read16]

/-- BRK takes the trap of its vector in a state with the stack and memory of `s`, `PC` past the byte after the opcode, and the
Constant flag set by the fetch, which with the bit BRK sets makes the bits PHP sets (R218, D7, D8). -/
theorem exec_brk (h : exec .brk s = .next t) :
    ∃ u n, t = tick n (trapEnter Config.vecIrq true u) ∧ u.sp = s.sp ∧ u.pc = s.pc + 2 ∧ u.p ||| 0x10 = s.p ||| 0x30 ∧
      memoryKept s u := by
  have hret : (fetched 1 s).pc + 1 = s.pc + 2 := BitVec.add_assoc s.pc 1 1
  have hstatus : (fetched 1 s).p ||| 0x10 = s.p ||| 0x30 := by
    rw [fetched_p, BitVec.or_assoc]
    rfl
  have ht := exec_next h
  rw [ruleOf] at ht
  exact ⟨_, _, ht, rfl, hret, hstatus, fun _ => rfl⟩

/-- Settles O43: the frame and the vector by the laws of `trapEnter`, in the state in which `exec_brk` takes the trap. -/
theorem brkEntersTheIrqVector : Obligations.BrkEntersTheIrqVector := by
  refine ⟨rfl, fun s => ?_⟩
  obtain ⟨t, h⟩ := exec_of_wf (i := .brk) rfl s
  obtain ⟨u, n, ht, hsp, hret, hstatus, hread⟩ := exec_brk h
  have hframe : frameAt s.sp (s.pc + 2) (s.p ||| 0x30) s t := by
    have hentered := trapEnter_frame Config.vecIrq true u
    rw [if_pos rfl, hsp, hret, hstatus] at hentered
    obtain ⟨htsp, hhigh, hlow, hp, hrest⟩ := hentered
    rw [ht]
    exact ⟨htsp, hhigh, hlow, hp, fun q hq hq1 hq2 => (hrest q hq hq1 hq2).trans (hread q)⟩
  have hflag : t.flag .i = true := by rw [ht, tick_flag, trapEnter_flag, if_pos rfl]
  have hvector : t.pc = u.read16 0xFFFE := by
    rw [ht, tick_pc]
    exact trapEnter_pc_of_vector (by decide) (by decide) true u
  have hpclow : lo t.pc = s.read 0xFFFE := by rw [hvector, lo_read16, hread]
  have hpchigh : hi t.pc = s.read 0xFFFF := by
    rw [hvector, hi_read16, hread]
    rfl
  obtain ⟨hkeepA, -, hkeepX, hkeepY, -⟩ := registersHaveOnlyTheirWriters _ s t h
  exact ⟨t, h, hframe, hflag, exec_flagsKept h, hpclow, hpchigh, hkeepA (by decide), hkeepX (by decide),
    hkeepY (by decide), exec_accounted h⟩

/-- RTI's values: `P` is the pulled byte with bit 5 set, `PC` the word pulled after it, `SP` three more (R219, D6). -/
theorem exec_rti (h : exec .rti s = .next t) :
    t.p = s.read (stackAddr (s.sp + 1)) ||| 0x20 ∧
    t.pc = word16 (s.read (stackAddr (s.sp + 3))) (s.read (stackAddr (s.sp + 2))) ∧ t.sp = s.sp + 3 := by
  have htwo : s.sp + 1 + 1 = s.sp + 2 := BitVec.add_assoc s.sp 1 1
  have hthree : s.sp + 2 + 1 = s.sp + 3 := BitVec.add_assoc s.sp 2 1
  rw [exec_next h, ruleOf, trapReturn_eq, fetched_sp, htwo, hthree]
  exact ⟨rfl, rfl, rfl⟩

/-- Settles O44: the pulled values by `exec_rti`; RTI writes neither `A`, `X`, `Y` nor memory. -/
theorem rtiRestoresStatusAndPc : Obligations.RtiRestoresStatusAndPc := by
  refine ⟨rfl, fun s => ?_⟩
  obtain ⟨t, h⟩ := exec_of_wf (i := .rti) rfl s
  obtain ⟨hp, hpc, hsp⟩ := exec_rti h
  obtain ⟨hkeepA, -, hkeepX, hkeepY, -⟩ := registersHaveOnlyTheirWriters _ s t h
  have hmem : memoryKept s t := onlyStoresAndPushesChangeMemory _ s t h (.inl (by decide))
  exact ⟨t, h, hp, hpc ▸ lo_word16 _ _, hpc ▸ hi_word16 _ _, hsp, hkeepA (by decide), hkeepX (by decide), hkeepY (by decide),
    hmem, exec_accounted h⟩

end Sys2Proof.Machine
end

section
/-! SUPPORT. An undefined opcode is a no-op (47_undefined_opcodes R230), and a BRK undone by the RTI of its handler
(60_exceptions R249). -/

namespace Sys2Proof.Machine
open Sys2Proof.Claims

/-- An opcode R85 lists is an instruction in every mode `UNDEF_DESC` may give it (R231). -/
theorem wf_und {op : Byte} (o : Operand) (hop : op.toNat ∈ undefinedOpcodes) : (Instr.und op o).wf = true := by
  have hmode : (Instr.und op o).modeLegal = true := Mnemonic.und_modes o.mode
  simp [Instr.wf, hmode, Instr.undUndefined, Instr.undOpcode, hop]

/-- Settles O47: an undefined opcode is one of the instructions of `exec_flagOnly`, and writes no flag. -/
theorem undefinedOpcodesAreNoOps : Obligations.UndefinedOpcodesAreNoOps := by
  intro op o hop
  have hw := wf_und o hop
  refine ⟨if_pos hw, fun s => ?_⟩
  obtain ⟨t, h⟩ := exec_of_wf hw s
  obtain ⟨hregs, hpc, hmem, hacc⟩ := exec_flagOnly (by simp [Instr.mnemonic]) h
  exact ⟨t, h, hregs, hpc, exec_flagsKept h, hmem, hacc⟩

/-- RTI after BRK loads `P` with the status BRK pushed, which has B and U set and every other flag as it was (D6). -/
theorem getFlag_resumedStatus (f : Flag) (p : Byte) :
    getFlag f (p ||| 0x30 ||| 0x20) = if f = .b ∨ f = .u then true else getFlag f p := by
  cases f <;> simp [getFlag, Flag.bit]

/-- Settles O45: the three bytes RTI pulls are the frame BRK pushed, which the handler kept. -/
theorem brkThenRtiResumes : Obligations.BrkThenRtiResumes := by
  intro s t u v hbrk husp hkept hrti
  obtain ⟨-, hentry⟩ := brkEntersTheIrqVector
  obtain ⟨t', ht', ⟨hsp, hhigh, hlow, hstatus, -⟩, -⟩ := hentry s
  cases hbrk.symm.trans ht'
  obtain ⟨hp, hpc, hvsp⟩ := exec_rti hrti
  have hsp1 : u.sp + 1 = s.sp - 2 := by bv_omega
  have hsp2 : u.sp + 2 = s.sp - 1 := by bv_omega
  have hsp3 : u.sp + 3 = s.sp := by bv_omega
  rw [hsp1, hkept _ (.inr (.inr rfl)), hstatus] at hp
  rw [hsp2, hsp3, hkept _ (.inr (.inl rfl)), hkept _ (.inl rfl), hhigh, hlow, word16_hi_lo] at hpc
  have hflag (f : Flag) : v.flag f = if f = .b ∨ f = .u then true else s.flag f := by
    rw [State.flag, hp]
    exact getFlag_resumedStatus f s.p
  refine ⟨hpc, hvsp.trans hsp3, hflag .b, hflag .u, fun f hb hu => ?_⟩
  rw [hflag, if_neg (by simp [hb, hu])]

end Sys2Proof.Machine
end

section
/-! SUPPORT. The program sees nothing of the environment (60_exceptions R285, 70_reset_and_hazards R316): every part of an
instruction does the same with another controller, host's side and counters in their place. -/

namespace Sys2Proof.Machine
open Sys2Proof.Claims

/-- The state with the controller, the host's side and both counters replaced. -/
def replaceEnv (c : Controller) (h : HostSide) (n g : Nat) (s : State) : State :=
  { s with ctl := c, host := h, clockticks := n, clockgoal := g }

variable (c : Controller) (h : HostSide) (n g : Nat) (s : State)

@[simp] theorem replaceEnv_a : (replaceEnv c h n g s).a = s.a := rfl
@[simp] theorem replaceEnv_x : (replaceEnv c h n g s).x = s.x := rfl
@[simp] theorem replaceEnv_y : (replaceEnv c h n g s).y = s.y := rfl
@[simp] theorem replaceEnv_sp : (replaceEnv c h n g s).sp = s.sp := rfl
@[simp] theorem replaceEnv_pc : (replaceEnv c h n g s).pc = s.pc := rfl
@[simp] theorem replaceEnv_p : (replaceEnv c h n g s).p = s.p := rfl
@[simp] theorem replaceEnv_params : (replaceEnv c h n g s).params = s.params := rfl
@[simp] theorem replaceEnv_flag (f : Flag) : (replaceEnv c h n g s).flag f = s.flag f := rfl
@[simp] theorem replaceEnv_read (q : Addr) : (replaceEnv c h n g s).read q = s.read q := rfl

@[simp] theorem setA_replaceEnv (v : Byte) : (replaceEnv c h n g s).setA v = replaceEnv c h n g (s.setA v) := rfl
@[simp] theorem setX_replaceEnv (v : Byte) : (replaceEnv c h n g s).setX v = replaceEnv c h n g (s.setX v) := rfl
@[simp] theorem setY_replaceEnv (v : Byte) : (replaceEnv c h n g s).setY v = replaceEnv c h n g (s.setY v) := rfl
@[simp] theorem setSp_replaceEnv (v : Byte) : (replaceEnv c h n g s).setSp v = replaceEnv c h n g (s.setSp v) := rfl
@[simp] theorem setPc_replaceEnv (w : Addr) : (replaceEnv c h n g s).setPc w = replaceEnv c h n g (s.setPc w) := rfl
@[simp] theorem setP_replaceEnv (v : Byte) : (replaceEnv c h n g s).setP v = replaceEnv c h n g (s.setP v) := rfl
@[simp] theorem write_replaceEnv (q : Addr) (v : Byte) :
    (replaceEnv c h n g s).write q v = replaceEnv c h n g (s.write q v) := rfl
@[simp] theorem setFlag_replaceEnv (f : Flag) (v : Bool) :
    (replaceEnv c h n g s).setFlag f v = replaceEnv c h n g (s.setFlag f v) := rfl
@[simp] theorem fetched_replaceEnv (k : Nat) : fetched k (replaceEnv c h n g s) = replaceEnv c h n g (fetched k s) := rfl

@[simp] theorem setZN_replaceEnv (v : Byte) : setZN v (replaceEnv c h n g s) = replaceEnv c h n g (setZN v s) := by
  simp [setZN]

@[simp] theorem resultFlags_replaceEnv (a m r : Byte) (k : Bool) :
    resultFlags a m r k (replaceEnv c h n g s) = replaceEnv c h n g (resultFlags a m r k s) := by
  simp [resultFlags]

@[simp] theorem addFlags_replaceEnv (a m : Byte) (k : Bool) :
    addFlags a m k (replaceEnv c h n g s) = replaceEnv c h n g (addFlags a m k s) := by
  simp [addFlags]

@[simp] theorem compare_replaceEnv (r m : Byte) :
    compare r m (replaceEnv c h n g s) = replaceEnv c h n g (compare r m s) := by
  simp [compare]

@[simp] theorem bitTest_replaceEnv (m : Byte) : bitTest m (replaceEnv c h n g s) = replaceEnv c h n g (bitTest m s) := by
  simp [bitTest]

@[simp] theorem push8_replaceEnv (v : Byte) : push8 v (replaceEnv c h n g s) = replaceEnv c h n g (push8 v s) := by
  simp [push8]

@[simp] theorem push16_replaceEnv (w : Addr) : push16 w (replaceEnv c h n g s) = replaceEnv c h n g (push16 w s) := by
  simp [push16]

@[simp] theorem trapEnter_replaceEnv (vec : Addr) (brk : Bool) :
    trapEnter vec brk (replaceEnv c h n g s) = replaceEnv c h n g (trapEnter vec brk s) := by
  simp [trapEnter, State.read16]

@[simp] theorem trapReturn_replaceEnv : trapReturn (replaceEnv c h n g s) = replaceEnv c h n g (trapReturn s) := by
  simp [trapReturn_eq]

@[simp] theorem effAddr_replaceEnv (o : Operand) : effAddr o (replaceEnv c h n g s) = effAddr o s := by
  cases o <;> rfl

@[simp] theorem baseAddr_replaceEnv (o : Operand) : baseAddr o (replaceEnv c h n g s) = baseAddr o s := by
  cases o <;> rfl

@[simp] theorem getValue_replaceEnv (o : Operand) : getValue o (replaceEnv c h n g s) = getValue o s := by
  cases o <;> rfl

@[simp] theorem putValue_replaceEnv (o : Operand) (v : Byte) :
    putValue o v (replaceEnv c h n g s) = replaceEnv c h n g (putValue o v s) := by
  cases o <;> rfl

@[simp] theorem adcWith_replaceEnv (m : Byte) : adcWith m (replaceEnv c h n g s) = replaceEnv c h n g (adcWith m s) := by
  cases hd : s.flag .d <;> simp [adcWith, hd]

@[simp] theorem sbcWith_replaceEnv (m : Byte) : sbcWith m (replaceEnv c h n g s) = replaceEnv c h n g (sbcWith m s) := by
  cases hd : s.flag .d
  · simp [sbcWith, hd]
  · simp [sbcWith, hd]
    rfl

@[simp] theorem branchTo_replaceEnv (off : Byte) (taken : Bool) :
    branchTo off taken (replaceEnv c h n g s) = replaceEnv c h n g (branchTo off taken s) := by
  cases taken <;> rfl

@[simp] theorem shiftTo_replaceEnv (o : Operand) (r : Byte) (out : Bool) :
    shiftTo o r out (replaceEnv c h n g s) = replaceEnv c h n g (shiftTo o r out s) := by
  simp [shiftTo]

@[simp] theorem carryAt_replaceEnv (k : Nat) : carryAt k (replaceEnv c h n g s) = carryAt k s := rfl

/-- A rule does the same in the replaced state: each operation it is made of does. -/
theorem ruleOf_replaceEnv (i : Instr) : ruleOf i (replaceEnv c h n g s) = replaceEnv c h n g (ruleOf i s) := by
  cases i <;> simp [ruleOf, pull8_eq, pull16_eq]

/-- What an instruction costs does not depend on the environment. -/
theorem baseCost_replaceEnv (i : Instr) : baseCost i (replaceEnv c h n g s) = baseCost i s := by
  simp [baseCost, pageCross]

theorem extraOf_replaceEnv (i : Instr) : extraOf i (replaceEnv c h n g s) = extraOf i s := by
  cases i <;> rfl

theorem tick_replaceEnv (k : Nat) : tick k (replaceEnv c h n g s) =
    replaceEnv c h (wrapCount s.params.cntWidth (n + k)) g (tick k s) := rfl

variable {s} {i : Instr} {t : State}

/-- An instruction raises the ticks by a cost, and from the replaced state does the same, the replaced ticks raised by that
cost. -/
theorem exec_replaceEnv (hexec : exec i s = .next t) :
    ∃ cost, t.clockticks = wrapCount s.params.cntWidth (s.clockticks + cost) ∧
      exec i (replaceEnv c h n g s) = .next (replaceEnv c h (wrapCount s.params.cntWidth (n + cost)) g t) := by
  obtain ⟨hticks, -, -, -, hparams⟩ := ruleOf_systemKept i (fetched i.length s)
  refine ⟨baseCost i s + extraOf i (fetched i.length s), ?_, ?_⟩
  · rw [exec_next hexec, tick_clockticks, hticks, hparams, fetched_params, fetched_clockticks]
  · rw [exec_eq_perform, perform_of_wf _ (wf_of_exec hexec), fetched_replaceEnv, ruleOf_replaceEnv, baseCost_replaceEnv,
      extraOf_replaceEnv, tick_replaceEnv, hparams, fetched_params, ← exec_next hexec]

/-- Settles O52, by `exec_replaceEnv`. -/
theorem programsCannotSeeControllerOrTicks : Obligations.ProgramsCannotSeeControllerOrTicks :=
  fun _ _ _ c h n g hexec => exec_replaceEnv c h n g hexec

/-- With another host's side an instruction does the same and leaves that one (R285). -/
theorem exec_setHost (hexec : exec i s = .next t) : exec i (s.setHost h) = .next (t.setHost h) := by
  obtain ⟨hgoal, hctl, -, -⟩ := exec_controllerKept hexec
  obtain ⟨cost, hticks, hreplaced⟩ := exec_replaceEnv s.ctl h s.clockticks s.clockgoal hexec
  have ht : replaceEnv s.ctl h t.clockticks s.clockgoal t = t.setHost h := by
    rw [← hctl, ← hgoal]
    rfl
  rw [← hticks, ht] at hreplaced
  exact hreplaced

end Sys2Proof.Machine
end

section
/-! SUPPORT. What an event under a condition leads to, and the events of the CPU and the host: reset (70_reset_and_hazards R300),
the interrupts (60_exceptions R243 to R245), draining the output (R260), and the core step of a decoded instruction (R305). -/

namespace Sys2Proof.Machine
open Sys2Proof.Claims

/-- Under a condition that does not depend on the events after it and lets the event happen, the event leads where its effect
does (R7). -/
theorem eventLeads_of_pre {e : Event} {pre : State → Prop} {post : State → State → Prop}
    (hpre : ∀ s rest, pre s → pre (s.setHost { s.host with pending := rest })) (he : ∀ s, pre s → enabled e s = true)
    (hfire : ∀ s, pre s → ∃ t, fire e s = .next t ∧ post s t) : eventLeads e pre post := by
  intro s rest hp hs
  obtain ⟨t, ht, hpost⟩ := hfire _ (hpre s rest hs)
  exact ⟨t, (step_of_enabled hp (he s hs)).trans ht, hpost⟩

/-- Settles O21: the vector's word by the law of a word's bytes, and one field per update of the reset. -/
theorem resetEventWritesOnlyRegisters : Obligations.ResetEventWritesOnlyRegisters := by
  refine eventLeads_of_fire (fun _ => rfl) fun s => ⟨resetCpu s, rfl, ?_⟩
  have hflag (f : Flag) : (resetCpu s).flag f = if f = .u then true else s.flag f := by simp [resetCpu]
  exact ⟨lo_read16 _ s, hi_read16 _ s, rfl, rfl, rfl, rfl, hflag .u, fun f hu _ => by rw [hflag, if_neg hu], fun _ => rfl, rfl,
    rfl, rfl, rfl, rfl⟩

/-- An interrupt pushes `PC` and the live `P`, sets I, goes to its vector, which lies outside the stack page, and keeps the rest
(R241, R243, R244; D12). -/
theorem trapEnter_interrupt {vec : Addr} (hlow : hi vec ≠ Config.stackPage) (hhigh : hi (vec + 1) ≠ Config.stackPage)
    {s t : State} (h : t = trapEnter vec false s) : frameAt s.sp s.pc s.p s t ∧ t.flag .i = true ∧
      (∀ f, f ≠ .i → t.flag f = s.flag f) ∧ lo t.pc = s.read vec ∧ hi t.pc = s.read (vec + 1) ∧
      t.a = s.a ∧ t.x = s.x ∧ t.y = s.y ∧ t.clockticks = s.clockticks ∧ t.clockgoal = s.clockgoal ∧ t.ctl = s.ctl ∧
      t.host = s.host ∧ t.params = s.params := by
  subst h
  obtain ⟨ha, hx, hy, -, hsys⟩ := trapEnter_fields s vec false
  have hpc := trapEnter_pc_of_vector hlow hhigh false s
  refine ⟨trapEnter_frame vec false s, trapEnter_flag s vec false .i, fun f hf => ?_, ?_, ?_, ha, hx, hy, hsys⟩
  · rw [trapEnter_flag, if_neg hf]
  · rw [hpc, lo_read16]
  · rw [hpc, hi_read16]

/-- An `irq()` is masked by I only under `IRQ_RESPECTS_I` (R245; D13). -/
theorem irq_of_unmasked {s : State} (h : s.params.irqRespectsI = false ∨ s.flag .i = false) :
    irq s = trapEnter Config.vecIrq false s := by
  rw [irq, if_neg]
  rcases h with h | h <;> simp [h]

theorem irq_of_masked {s : State} (h : s.params.irqRespectsI = true ∧ s.flag .i = true) : irq s = s := by
  rw [irq, if_pos]
  simp [h]

/-- Settles O46: each interrupt that is taken is `trapEnter_interrupt` with its vector. -/
theorem interruptsEnterThroughTheirVectors : Obligations.InterruptsEnterThroughTheirVectors := by
  refine ⟨eventLeads_of_pre (fun _ _ h => h) (fun _ _ => rfl) fun s h => ⟨irq s, rfl, ?irq⟩,
    eventLeads_of_pre (fun _ _ h => h) (fun _ _ => rfl) fun s h => ⟨irq s, rfl, irq_of_masked h⟩,
    eventLeads_of_fire (fun _ => rfl) fun s => ⟨nmi s, rfl, ?nmi⟩⟩
  case irq => exact trapEnter_interrupt (vec := 0xFFFE) (by decide) (by decide) (irq_of_unmasked h)
  case nmi => exact trapEnter_interrupt (vec := 0xFFFA) (by decide) (by decide) rfl

/-- With IX bit 0 set a drain clears it and hands out the waiting byte (R260). -/
theorem drainOutput_of_waiting {s : State} (h : (ixByte s).getLsbD 0 = true) :
    drainOutput s = emit (.drained (some (s.read s.host.platform.uartOut))) (s.write s.host.platform.ix (ixByte s &&& 0xFE)) := by
  rw [drainOutput, if_pos h]

theorem drainOutput_of_empty {s : State} (h : (ixByte s).getLsbD 0 = false) : drainOutput s = emit (.drained none) s := by
  rw [drainOutput, if_neg (Bool.eq_false_iff.1 h)]

/-- Settles O56: with IX bit 0 set the event writes IX and hands out the byte, else it hands out that there is none. -/
theorem drainOutputTakesTheWaitingByte : Obligations.DrainOutputTakesTheWaitingByte := by
  refine ⟨eventLeads_of_pre (fun _ _ h => h) (fun _ _ => rfl) fun s h =>
      ⟨_, congrArg Host.Outcome.next (drainOutput_of_waiting h), ?_⟩,
    eventLeads_of_pre (fun _ _ h => h) (fun _ _ => rfl) fun s h =>
      ⟨_, congrArg Host.Outcome.next (drainOutput_of_empty h), rfl⟩⟩
  exact ⟨onlyByte_write s.host.platform.ix _ s, ⟨⟨rfl, rfl, rfl, rfl⟩, rfl, rfl, rfl, rfl, rfl⟩, rfl, rfl⟩

/-- What the bytes at `PC` decode to is what a step fetches (R86). -/
theorem fetchInstr_of_decode {s : State} {i : Instr} {rest : List Byte}
    (h : decode s.params.undefDesc [s.read s.pc, s.read (s.pc + 1), s.read (s.pc + 2)] = .ok (i, rest)) :
    fetchInstr s = i := by
  rw [decode_three] at h
  cases h
  rfl

/-- Settles O14: the core step runs what it fetches, and taking an event off the list changes no byte it fetches. -/
theorem stepRunsTheDecodedInstruction : Obligations.StepRunsTheDecodedInstruction := by
  intro s i rest hdec
  have hfetch := fetchInstr_of_decode hdec
  have hcore : cpuStep s = exec i s := by rw [cpuStep, hfetch]
  refine ⟨hcore, fun l hp => ?event, fun hp hidle hstep => ?idle⟩
  case event =>
    have hfetch' : fetchInstr (s.setHost { s.host with pending := l }) = i := hfetch
    rw [step_of_enabled hp rfl, fire, cpuStep, hfetch']
  case idle => rw [step_of_pending_nil hp, proceed_of_idle hidle, if_pos hstep, hcore]

end Sys2Proof.Machine
end

section
/-! SUPPORT. The breakpoint test (60_exceptions R273): the first entry of the table, in its order, that names a byte of the
instruction at `PC`. -/

namespace Sys2Proof.Machine
open Sys2Proof.Claims

variable {pc : Addr} {len : Nat}

/-- An address is at distance below `len` from `pc` exactly when it is one of the `len` addresses from `pc` on, modulo 65536
(D21). -/
theorem sub_toNat_lt_iff (a : Addr) (hlen : len ≤ 65536) :
    (a - pc).toNat < len ↔ ∃ k, k < len ∧ a = pc + BitVec.ofNat 16 k := by
  constructor
  · intro h
    refine ⟨_, h, ?_⟩
    rw [BitVec.ofNat_toNat, BitVec.setWidth_eq, BitVec.add_comm, BitVec.sub_add_cancel]
  · rintro ⟨k, hk, rfl⟩
    have hdist : pc + BitVec.ofNat 16 k - pc = BitVec.ofNat 16 k := by rw [BitVec.add_comm, BitVec.add_sub_cancel]
    rw [hdist, BitVec.toNat_ofNat, Nat.mod_eq_of_lt (by omega)]
    exact hk

/-- The test of an entry is whether it covers the instruction at `PC` (R273). -/
theorem bpMatches_iff (s : State) (e : Breakpoint) : bpMatches s.pc (lengthAtPc s) e = true ↔ covers s e := by
  have hlen : lengthAtPc s ≤ 65536 :=
    Nat.le_trans (Nat.add_le_add_right (Mode.operandBytes_le _) 1) (by decide)
  rw [bpMatches, Bool.and_eq_true, decide_eq_true_iff, sub_toNat_lt_iff _ hlen, covers, lengthAtPc]

theorem firstHit_eq_none_iff (i : Nat) (l : List Breakpoint) :
    firstHit pc len i l = none ↔ ∀ e ∈ l, ¬ bpMatches pc len e = true := by
  induction l generalizing i with
  | nil => simp [firstHit]
  | cons e l ih =>
    by_cases he : bpMatches pc len e = true
    · simp [firstHit, he]
    · simp [firstHit, he, ih]

/-- The first match is at distance `k` from the first place when the entry there matches and none before it does. -/
theorem firstHit_eq_some_iff (i n : Nat) (e : Breakpoint) (l : List Breakpoint) :
    firstHit pc len i l = some (n, e) ↔ ∃ k, n = i + k ∧ l[k]? = some e ∧ bpMatches pc len e = true ∧
      ∀ j e', j < k → l[j]? = some e' → ¬ bpMatches pc len e' = true := by
  induction l generalizing i with
  | nil => simp [firstHit]
  | cons d l ih =>
    by_cases hd : bpMatches pc len d = true
    · rw [firstHit, if_pos hd]
      constructor
      · intro h
        cases h
        exact ⟨0, rfl, rfl, hd, fun j e' hj => absurd hj (Nat.not_lt_zero j)⟩
      · rintro ⟨k, rfl, hk, -, hfirst⟩
        cases k with
        | zero =>
          cases hk
          rfl
        | succ k => exact absurd hd (hfirst 0 d (Nat.succ_pos k) rfl)
    · rw [firstHit, if_neg hd, ih]
      constructor
      · rintro ⟨k, rfl, hk, he, hfirst⟩
        refine ⟨k + 1, by omega, hk, he, fun j e' hj hl => ?_⟩
        cases j with
        | zero =>
          cases hl
          exact hd
        | succ j => exact hfirst j e' (Nat.lt_of_succ_lt_succ hj) hl
      · rintro ⟨k, rfl, hk, he, hfirst⟩
        cases k with
        | zero =>
          cases hk
          exact absurd he hd
        | succ k => exact ⟨k, by omega, hk, he, fun j e' hj hl => hfirst (j + 1) e' (Nat.succ_lt_succ hj) hl⟩

/-- Settles O57: the first match of the table from place 0, a match being an entry that covers the instruction. -/
theorem hitIsTheFirstContainingBreakpoint : Obligations.HitIsTheFirstContainingBreakpoint := by
  intro s
  refine ⟨?none, fun n e => ?some⟩
  case none => simp only [hit, firstHit_eq_none_iff, bpMatches_iff]
  case some => simp [hit, firstHit_eq_some_iff, bpMatches_iff]

end Sys2Proof.Machine
end

section
/-! SUPPORT. The breakpoint and execution controller (60_exceptions R270 to R283): what going on is, an iteration by its parts,
the commands in `Idle`, and how a run ends. -/

namespace Sys2Proof.Machine
open Sys2Proof.Claims

/-- In every way the machine goes on, the step is what going on from that state does (log entry 6). -/
theorem step_of_goesOnFrom {p s : State} (h : goesOnFrom p s) : step p = proceed s := by
  rcases h with ⟨rfl, hwaits⟩ | ⟨rest, hp, rfl⟩
  · cases hp : s.host.pending with
    | nil => exact step_of_pending_nil hp
    | cons e rest => exact step_of_disabled hp (hwaits e rest hp)
  · exact step_of_proceed hp

/-- Outside `Idle` it is an iteration of the run (R276). -/
theorem step_of_goesOnFrom_running {p s : State} (h : goesOnFrom p s) (hrun : s.ctl.ctrl ≠ .idle) : step p = iterate s :=
  (step_of_goesOnFrom h).trans (proceed_of_running hrun)

/-- Parts 2 to 5 of an iteration, from the state the poll leaves (R276): the breakpoint test, the instruction, the IX test and the
count. -/
def afterPoll (s : State) : Host.Outcome State Fault Refusal :=
  match stopsAt s with
  | some (i, e) => .next (halt (.breakpointHit i e) (s.setCtl { s.ctl with atBp := true }))
  | none =>
    match cpuStep (s.setCtl { s.ctl with atBp := false }) with
    | .next t => .next (afterStep t)
    | .fault r => .fault r
    | .refused r => .refused r

variable {s t : State}

/-- With cancel set a `Continuous` iteration only ends the run (R278). -/
theorem iterate_of_cancelled (hrun : s.ctl.ctrl = .continuous) (hcancel : s.ctl.cancel = true) :
    iterate s = .next (halt .interrupted s) := by
  rw [iterate, if_pos ⟨hrun, hcancel⟩]

/-- Without cancel, which only `Continuous` tests, an iteration is the poll and then its other parts (R276). -/
theorem iterate_of_not_cancelled (h : s.ctl.ctrl = .continuous → s.ctl.cancel = false) :
    iterate s = afterPoll (pollKey s) := by
  rw [iterate, if_neg]
  · rfl
  · rintro ⟨hrun, hcancel⟩
    simp [h hrun] at hcancel

/-- No key is delivered outside `Continuous`, with none offered or with busy set (R279). -/
theorem pollKey_of_no_delivery (h : s.ctl.ctrl = .continuous → s.host.keys = [] ∨ busy s = true) : pollKey s = s := by
  by_cases hrun : s.ctl.ctrl = .continuous
  · exact (h hrun).elim pollKey_of_no_keys pollKey_of_busy
  · exact pollKey_of_not_continuous hrun

/-- An iteration that neither is cancelled nor delivers a key is its parts 2 to 5 (R276). -/
theorem iterate_of_no_delivery
    (h : s.ctl.ctrl = .continuous → s.ctl.cancel = false ∧ (s.host.keys = [] ∨ busy s = true)) :
    iterate s = afterPoll s := by
  rw [iterate_of_not_cancelled fun hrun => (h hrun).1, pollKey_of_no_delivery fun hrun => (h hrun).2]

/-- A breakpoint ends the run before the instruction (R276 part 2). -/
theorem afterPoll_of_stop {n : Nat} {e : Breakpoint} (h : stopsAt s = some (n, e)) :
    afterPoll s = .next (halt (.breakpointHit n e) (s.setCtl { s.ctl with atBp := true })) := by
  simp only [afterPoll, h]

/-- With nothing to stop at, the instruction is run and then come the IX test and the count (R276 parts 3 to 5). -/
theorem afterPoll_of_run (hstop : stopsAt s = none) (hcpu : cpuStep (s.setCtl { s.ctl with atBp := false }) = .next t) :
    afterPoll s = .next (afterStep t) := by
  simp only [afterPoll, hstop, hcpu]

/-- An iteration's parts 2 to 5 are one of the two (R276). -/
theorem afterPoll_cases (h : afterPoll s = .next t) :
    (∃ n e, stopsAt s = some (n, e) ∧ t = halt (.breakpointHit n e) (s.setCtl { s.ctl with atBp := true })) ∨
    (stopsAt s = none ∧ ∃ u, cpuStep (s.setCtl { s.ctl with atBp := false }) = .next u ∧ t = afterStep u) := by
  cases hstop : stopsAt s with
  | some hit =>
    rw [afterPoll_of_stop hstop] at h
    cases h
    exact .inl ⟨_, _, rfl, rfl⟩
  | none =>
    obtain ⟨u, hu⟩ := cpuStep_next (s.setCtl { s.ctl with atBp := false })
    rw [afterPoll_of_run hstop hu] at h
    cases h
    exact .inr ⟨rfl, u, hu, rfl⟩

/-- No breakpoint is tested with `at_bp` set (R280). -/
theorem stopsAt_eq_none (h : s.ctl.atBp = true ∨ hit s = none) : stopsAt s = none := by
  rw [stopsAt]
  rcases h with h | h <;> simp [h]

theorem stopsAt_of_not_atBp (h : s.ctl.atBp = false) : stopsAt s = hit s := by
  simp [stopsAt, h]

/-- Settles O15: the iteration delivers no key and stops at nothing, and `at_bp` is no part of what a step fetches. -/
theorem runningControllerRunsTheDecodedInstruction : Obligations.RunningControllerRunsTheDecodedInstruction := by
  intro p s t i rest hgo hrun hkey hbp hdec hexec
  have hfetch : fetchInstr (s.setCtl { s.ctl with atBp := false }) = i := fetchInstr_of_decode (s := s) hdec
  have hcpu : cpuStep (s.setCtl { s.ctl with atBp := false }) = .next t := by rw [cpuStep, hfetch, hexec]
  rw [step_of_goesOnFrom_running hgo hrun, iterate_of_no_delivery hkey, afterPoll_of_run (stopsAt_eq_none hbp) hcpu]

/-- Settles O59: cancel is tested first, then the breakpoint, and each ends the run by `halt`. -/
theorem cancelAndBreakpointsHaltBeforeExecuting : Obligations.CancelAndBreakpointsHaltBeforeExecuting := by
  refine ⟨fun p s hgo hrun hcancel => ?cancel, fun p s n e hgo hrun hkey hbp hhit => ?breakpoint⟩
  case cancel =>
    have hidle : s.ctl.ctrl ≠ .idle := by simp [hrun]
    rw [step_of_goesOnFrom_running hgo hidle, iterate_of_cancelled hrun hcancel, halt_eq]
  case breakpoint =>
    have hstop := (stopsAt_of_not_atBp hbp).trans hhit
    rw [step_of_goesOnFrom_running hgo hrun, iterate_of_no_delivery hkey, afterPoll_of_stop hstop, halt_eq]
    rfl

/-- With IX bit 7 set the program has exited, whatever bit 6 is (R277; D31). -/
theorem afterStep_of_exit (h : (ixByte s).getLsbD 7 = true) : afterStep s = halt .programExited s := by
  rw [afterStep, if_pos h]

theorem afterStep_of_return (hexit : (ixByte s).getLsbD 7 = false) (h : (ixByte s).getLsbD 6 = true) :
    afterStep s = halt .returnToDebugger s := by
  rw [afterStep, if_neg (Bool.eq_false_iff.1 hexit), if_pos h]

/-- With neither bit set, a bounded run counts its instruction and ends with the last (R274, R276). -/
theorem afterStep_of_stepping (hexit : (ixByte s).getLsbD 7 = false) (hreturn : (ixByte s).getLsbD 6 = false)
    (hrun : s.ctl.ctrl = .steppingN) :
    afterStep s = if s.ctl.remaining - 1 = 0 then halt .stepDone s
      else s.setCtl { s.ctl with remaining := s.ctl.remaining - 1 } := by
  rw [afterStep, if_neg (Bool.eq_false_iff.1 hexit), if_neg (Bool.eq_false_iff.1 hreturn)]
  simp only [hrun]

/-- With neither bit set, a run that is not bounded goes on. -/
theorem afterStep_of_not_stepping (hexit : (ixByte s).getLsbD 7 = false) (hreturn : (ixByte s).getLsbD 6 = false)
    (hrun : s.ctl.ctrl ≠ .steppingN) : afterStep s = s := by
  rw [afterStep, if_neg (Bool.eq_false_iff.1 hexit), if_neg (Bool.eq_false_iff.1 hreturn)]
  split
  · contradiction
  · rfl

/-- Everything the IX test and the count can do (R276 parts 4 and 5): end the run, count, or nothing. -/
theorem afterStep_cases (s : State) : (∃ r, afterStep s = halt r s) ∨
    afterStep s = s.setCtl { s.ctl with remaining := s.ctl.remaining - 1 } ∨ afterStep s = s := by
  cases hexit : (ixByte s).getLsbD 7 with
  | true => exact .inl ⟨_, afterStep_of_exit hexit⟩
  | false =>
    cases hreturn : (ixByte s).getLsbD 6 with
    | true => exact .inl ⟨_, afterStep_of_return hexit hreturn⟩
    | false =>
      by_cases hrun : s.ctl.ctrl = .steppingN
      · rw [afterStep_of_stepping hexit hreturn hrun]
        split
        · exact .inl ⟨_, rfl⟩
        · exact .inr (.inl rfl)
      · exact .inr (.inr (afterStep_of_not_stepping hexit hreturn hrun))

/-- Settles O60: CPU and memory by `afterStep_cases`, each clause by the equation of its case. -/
theorem ixBitsAndCountEndARun : Obligations.IxBitsAndCountEndARun := by
  intro s
  obtain ⟨hcpu, hmem⟩ : cpuKept s (afterStep s) ∧ memoryKept s (afterStep s) := by
    obtain ⟨r, h⟩ | h | h := afterStep_cases s <;> rw [h] <;>
      exact ⟨⟨⟨rfl, rfl, rfl, rfl⟩, rfl, rfl, rfl, rfl, rfl⟩, fun _ => rfl⟩
  refine ⟨hcpu, hmem, fun hexit => ?exit, fun hexit hreturn => ?returns,
    fun hexit hreturn => ⟨fun hrun hlast => ?last, fun hrun hmore => ?more, fun hrun => ?continuous⟩⟩
  case exit =>
    rw [afterStep_of_exit hexit, halt_eq]
    exact ⟨rfl, rfl⟩
  case returns =>
    rw [afterStep_of_return hexit hreturn, halt_eq]
    exact ⟨rfl, rfl⟩
  case last =>
    rw [afterStep_of_stepping hexit hreturn hrun, if_pos (by omega), halt_eq]
    exact ⟨rfl, rfl⟩
  case more =>
    rw [afterStep_of_stepping hexit hreturn hrun, if_neg (by omega)]
    exact ⟨rfl, rfl⟩
  case continuous => exact afterStep_of_not_stepping hexit hreturn (by simp [hrun])

/-- A command may happen exactly in `Idle` (R270). -/
theorem enabled_of_isCommand {e : Event} (hcmd : isCommand e) (s : State) : enabled e s = decide (s.ctl.ctrl = .idle) := by
  obtain ⟨a, rfl | rfl⟩ | ⟨n, rfl⟩ | rfl := hcmd <;> rfl

/-- In `Idle` a command leads where its effect does. -/
theorem eventLeads_of_isCommand {e : Event} {pre : State → Prop} {post : State → State → Prop} (hcmd : isCommand e)
    (hidle : ∀ s, pre s → s.ctl.ctrl = .idle) (hpre : ∀ s rest, pre s → pre (s.setHost { s.host with pending := rest }))
    (hfire : ∀ s, pre s → ∃ t, fire e s = .next t ∧ post s t) : eventLeads e pre post :=
  eventLeads_of_pre hpre (fun s hs => (enabled_of_isCommand hcmd s).trans (decide_eq_true (hidle s hs))) hfire

/-- A table with a slot left takes an active entry at its end (R271; log entry 20). -/
theorem addBp_of_slot (a : Addr) (h : ∀ n, s.params.bpCapacity = some n → s.ctl.bps.length < n) :
    addBp a s = s.setCtl { s.ctl with bps := s.ctl.bps ++ [⟨a, true⟩] } := by
  rw [addBp, if_neg]
  intro hfull
  obtain ⟨n, hn, hle⟩ := bpFull_iff.1 hfull
  exact absurd (h n hn) (Nat.not_lt.2 hle)

theorem addBp_of_full {n : Nat} (a : Addr) (h : s.params.bpCapacity = some n ∧ n ≤ s.ctl.bps.length) : addBp a s = s := by
  rw [addBp, if_pos (bpFull_iff.2 ⟨n, h⟩)]

/-- Removal keeps every entry in its place, inactive if it has the address (R272). -/
theorem removeBp_bps_getElem? {a : Addr} {k : Nat} {e : Breakpoint} (h : s.ctl.bps[k]? = some e) :
    (removeBp a s).ctl.bps[k]? = some (if e.address = a then ⟨e.address, false⟩ else e) := by
  simp [removeBp, h]

theorem removeBp_bps_length (a : Addr) (s : State) : (removeBp a s).ctl.bps.length = s.ctl.bps.length := by
  simp [removeBp]

theorem stepCmd_of_ne_zero {n : Nat} (h : n ≠ 0) :
    stepCmd n s = s.setCtl { s.ctl with ctrl := .steppingN, remaining := n } := by
  rw [stepCmd, if_neg h]

/-- Settles O58: each command is accepted in `Idle`, where it is one update; outside it waits and the run goes on. -/
theorem commandsInIdleEditTheController : Obligations.CommandsInIdleEditTheController := by
  refine ⟨fun a => ?add, fun a n => ?full, fun a => ?remove, fun n => ?start, ?startZero, ?resume,
    fun s e rest hp hcmd hrun => ?busy⟩
  case add =>
    exact eventLeads_of_isCommand (.inl ⟨a, .inl rfl⟩) (fun _ h => h.1) (fun _ _ h => h)
      fun s h => ⟨addBp a s, rfl, addBp_of_slot a h.2⟩
  case full =>
    exact eventLeads_of_isCommand (.inl ⟨a, .inl rfl⟩) (fun _ h => h.1) (fun _ _ h => h)
      fun s h => ⟨addBp a s, rfl, addBp_of_full a h.2⟩
  case remove =>
    exact eventLeads_of_isCommand (.inl ⟨a, .inr rfl⟩) (fun _ h => h) (fun _ _ h => h)
      fun s _ => ⟨removeBp a s, rfl, rfl, removeBp_bps_length a s, fun _ _ => removeBp_bps_getElem?⟩
  case start =>
    exact eventLeads_of_isCommand (.inr (.inl ⟨n, rfl⟩)) (fun _ h => h.1) (fun _ _ h => h)
      fun s h => ⟨stepCmd n s, rfl, stepCmd_of_ne_zero h.2⟩
  case startZero =>
    exact eventLeads_of_isCommand (.inr (.inl ⟨0, rfl⟩)) (fun _ h => h) (fun _ _ h => h) fun s _ => ⟨stepCmd 0 s, rfl, rfl⟩
  case resume =>
    exact eventLeads_of_isCommand (.inr (.inr rfl)) (fun _ h => h) (fun _ _ h => h) fun s _ => ⟨continueCmd s, rfl, rfl⟩
  case busy =>
    have hwaits : enabled e s = false := (enabled_of_isCommand hcmd s).trans (decide_eq_false hrun)
    exact (step_of_disabled hp hwaits).trans (proceed_of_running hrun)

end Sys2Proof.Machine
end

section
/-! SUPPORT. The delivery of a key (60_exceptions R259, R279): an iteration after the poll reads neither the keys nor the waiting
events, so it does the same with others in their place. -/

namespace Sys2Proof.Machine
open Sys2Proof.Claims

/-- The state with other keys offered and other events waiting. -/
def setQueues (keys : List Byte) (pending : List Event) (s : State) : State :=
  s.setHost { s.host with keys := keys, pending := pending }

variable {s t : State}

/-- A core step neither reads nor changes the host's side (R283, R285). -/
theorem cpuStep_setQueues (ks : List Byte) (es : List Event) (h : cpuStep s = .next t) :
    cpuStep (setQueues ks es s) = .next (setQueues ks es t) := by
  obtain ⟨-, -, hhost, -⟩ := exec_controllerKept h
  rw [setQueues, setQueues, hhost]
  exact exec_setHost _ h

/-- The IX test and the count read neither the keys nor the waiting events (R276, R277). -/
theorem afterStep_setQueues (ks : List Byte) (es : List Event) (s : State) :
    afterStep (setQueues ks es s) = setQueues ks es (afterStep s) := by
  cases hexit : (ixByte s).getLsbD 7 with
  | true =>
    rw [afterStep_of_exit hexit, afterStep_of_exit (s := setQueues ks es s) hexit]
    rfl
  | false =>
    cases hreturn : (ixByte s).getLsbD 6 with
    | true =>
      rw [afterStep_of_return hexit hreturn, afterStep_of_return (s := setQueues ks es s) hexit hreturn]
      rfl
    | false =>
      by_cases hrun : s.ctl.ctrl = .steppingN
      · rw [afterStep_of_stepping hexit hreturn hrun, afterStep_of_stepping (s := setQueues ks es s) hexit hreturn hrun,
          apply_ite (setQueues ks es)]
        rfl
      · rw [afterStep_of_not_stepping hexit hreturn hrun,
          afterStep_of_not_stepping (s := setQueues ks es s) hexit hreturn hrun]

/-- Parts 2 to 5 of an iteration do the same with other keys and other waiting events (R276). -/
theorem afterPoll_setQueues (ks : List Byte) (es : List Event) (h : afterPoll s = .next t) :
    afterPoll (setQueues ks es s) = .next (setQueues ks es t) := by
  have hstops : stopsAt (setQueues ks es s) = stopsAt s := rfl
  obtain ⟨n, e, hstop, rfl⟩ | ⟨hstop, u, hu, rfl⟩ := afterPoll_cases h
  · rw [afterPoll_of_stop (hstops.trans hstop)]
    rfl
  · rw [afterPoll_of_run (hstops.trans hstop) (cpuStep_setQueues ks es hu), afterStep_setQueues]

/-- A delivery leaves the controller and the host's side alone: it writes two bytes and enters as an IRQ (R259). -/
theorem deliverKey_controllerKept (b : Byte) (s : State) :
    (deliverKey b s).ctl = s.ctl ∧ (deliverKey b s).host = s.host := by
  unfold deliverKey irq
  split
  · exact ⟨rfl, rfl⟩
  · obtain ⟨-, -, -, -, -, -, hctl, hhost, -⟩ := trapEnter_fields _ Config.vecIrq false
    exact ⟨hctl, hhost⟩

theorem deliverKey_setQueues (b : Byte) (ks : List Byte) (es : List Event) (s : State) :
    deliverKey b (setQueues ks es s) = setQueues ks es (deliverKey b s) := by
  obtain ⟨-, hhost⟩ := deliverKey_controllerKept b s
  rw [setQueues, setQueues, hhost]
  exact deliverKey_setHost b s _ rfl

/-- With a key offered and busy clear, a `Continuous` poll delivers the first key and leaves the others (R279). -/
theorem pollKey_of_delivery {b : Byte} {rest : List Byte} (hrun : s.ctl.ctrl = .continuous) (hkeys : s.host.keys = b :: rest)
    (hbusy : busy s = false) : pollKey s = setQueues rest s.host.pending (deliverKey b s) := by
  rw [← deliverKey_setQueues]
  simp [pollKey, setQueues, hrun, hkeys, hbusy]

/-- No part of a run but the poll takes a key. -/
theorem afterStep_keys (s : State) : (afterStep s).host.keys = s.host.keys := by
  obtain ⟨r, h⟩ | h | h := afterStep_cases s <;> rw [h] <;> rfl

theorem afterPoll_keys (h : afterPoll s = .next t) : t.host.keys = s.host.keys := by
  obtain ⟨n, e, -, rfl⟩ | ⟨-, u, hu, rfl⟩ := afterPoll_cases h
  · rfl
  · obtain ⟨-, -, hhost, -⟩ := exec_controllerKept hu
    rw [afterStep_keys, hhost]
    rfl

/-- With busy set a `Continuous` iteration takes no key (R279; D24). -/
theorem iterate_keys_of_busy (hrun : s.ctl.ctrl = .continuous) (hbusy : busy s = true) (h : iterate s = .next t) :
    t.host.keys = s.host.keys := by
  cases hcancel : s.ctl.cancel with
  | true =>
    rw [iterate_of_cancelled hrun hcancel] at h
    cases h
    rfl
  | false =>
    rw [iterate_of_not_cancelled fun _ => hcancel, pollKey_of_busy hbusy] at h
    exact afterPoll_keys h

/-- Settles O55: a delivery is the event's own effect; a polled one is the same delivery with the other keys and events put back,
which the rest of the iteration does not read. -/
theorem keysAreDeliveredOnlyWhenNotBusy : Obligations.KeysAreDeliveredOnlyWhenNotBusy := by
  refine ⟨fun b => ?event, fun b s rest hp hbusy => ?waits,
    fun b p s u t rest hgo hrun hcancel hkeys hbusy hu hstep => ?polled,
    fun p s t hgo hrun hbusy hstep => ?kept⟩
  case event =>
    exact eventLeads_of_pre (fun _ _ h => h) (fun s h => congrArg Bool.not h) fun s _ => ⟨deliverKey b s, rfl, rfl⟩
  case waits => exact step_of_disabled hp (congrArg Bool.not hbusy)
  case polled =>
    have hu : u = setQueues [] [] (deliverKey b s) := hu.trans (deliverKey_setQueues b [] [] s)
    have hpoll : pollKey s = setQueues rest s.host.pending u := hu ▸ pollKey_of_delivery hrun hkeys hbusy
    have huctl : u.ctl = s.ctl := by
      obtain ⟨hctl, -⟩ := deliverKey_controllerKept b s
      rw [hu, setQueues, State.setHost_ctl, hctl]
    have hafter : afterPoll u = .next t := by
      rw [← iterate_of_no_delivery fun _ => ⟨huctl ▸ hcancel, .inl (hu ▸ rfl)⟩,
        ← proceed_of_running (by simp [huctl, hrun]), ← step_of_pending_nil (hu ▸ rfl), hstep]
    rw [step_of_goesOnFrom_running hgo (by simp [hrun]), iterate_of_not_cancelled fun _ => hcancel, hpoll]
    exact afterPoll_setQueues rest s.host.pending hafter
  case kept =>
    rw [step_of_goesOnFrom_running hgo (by simp [hrun])] at hstep
    exact iterate_keys_of_busy hrun hbusy hstep

end Sys2Proof.Machine
end

section
/-! SUPPORT. What an instruction costs (70_reset_and_hazards R310 to R314): its base cost and at most 2 more, the table of base
costs, and R311's classes. -/

namespace Sys2Proof.Machine
open Sys2Proof.Claims

/-- The mnemonics that pay for a page crossing (R312). -/
theorem eligible_iff (m : Mnemonic) : eligible m = true ↔ m ∈ [.adc, .and, .cmp, .eor, .lda, .ldx, .ldy, .ora, .sbc] :=
  List.contains_iff_mem

theorem decimalExtra_le (s : State) : decimalExtra s ≤ 1 := by
  rw [decimalExtra]
  split <;> decide

theorem branchExtra_le (taken : Bool) (off : Byte) (s : State) : branchExtra taken off s ≤ 2 := by
  rw [branchExtra]
  split
  · split <;> decide
  · decide

/-- Beside its base cost an instruction pays at most 2: the branches up to 2, none of them eligible for a crossing's, the others at
most 1 for a crossing and 1 in decimal mode (R312 to R314). -/
theorem extraCost_le (i : Instr) (crossed : Bool) (s : State) :
    (if eligible i.mnemonic = true ∧ crossed = true then 1 else 0) + extraOf i s ≤ 2 := by
  have hcross : (if eligible i.mnemonic = true ∧ crossed = true then 1 else 0) ≤ 1 := by split <;> decide
  cases i
  case adc | sbc => exact Nat.add_le_add hcross (decimalExtra_le s)
  case bcc | bcs | beq | bne | bmi | bpl | bvc | bvs =>
    simp [Instr.mnemonic, eligible, extraOf, branchExtra_le]
  all_goals exact Nat.le_succ_of_le hcross

/-- An instruction's ticks are its base cost and at most 2 more (R310). -/
theorem exec_clockticks {i : Instr} {s t : State} (h : exec i s = .next t) : ∃ extra, extra ≤ 2 ∧
    t.clockticks = wrapCount s.params.cntWidth (s.clockticks + cycles s.params.cycles i.opcode + extra) := by
  obtain ⟨-, hticks, -⟩ := exec_accounted h
  exact ⟨_, extraCost_le i (pageCross i.operand s) _, by rw [hticks, Nat.add_assoc (_ + _)]⟩

variable {table : List (List Nat)} {op : Byte} {row : List Nat}

/-- A table's row for the high nibble gives the cost in the column of the low nibble (R311). -/
theorem cycles_of_row (h : table[op.toNat / 16]? = some row) : cycles table op = row.getD (op.toNat % 16) 0 := by
  simp [cycles, List.getD, h]

theorem cycles_of_no_row (h : table.length ≤ op.toNat / 16) : cycles table op = 0 := by
  simp [cycles, List.getD, List.getElem?_eq_none h]

/-- Each opcode's default cost is that of its class and mode in R311. -/
theorem defaultCycles_baseCosts : ∀ op : Byte, ∃ k ∈ baseCosts, (descriptor defaultUndefDesc op).1 ∈ k.1 ∧
    ((descriptor defaultUndefDesc op).2, cycles defaultCycles op) ∈ k.2 := by
  decide +kernel

theorem one_le_of_mem_baseCosts : ∀ k ∈ baseCosts, ∀ c ∈ k.2, 1 ≤ c.2 := by
  decide

/-- Settles O53: the costs by `exec_clockticks`, the table by its rows and columns, the default table by R311's classes. -/
theorem everyInstructionCostsTicks : Obligations.EveryInstructionCostsTicks := by
  refine ⟨eligible_iff, fun _ _ _ => exec_clockticks, fun table op row hrow => ⟨fun c hc => ?column, fun hshort => ?short⟩,
    fun _ _ => cycles_of_no_row, defaultCycles_baseCosts, fun op => ?positive, fun _ => ⟨rfl, fun _ => rfl⟩⟩
  case column => rw [cycles_of_row hrow, List.getD, hc, Option.getD_some]
  case short => rw [cycles_of_row hrow, List.getD_eq_default _ _ hshort]
  case positive =>
    obtain ⟨k, hk, -, hcost⟩ := defaultCycles_baseCosts op
    exact one_le_of_mem_baseCosts k hk _ hcost

end Sys2Proof.Machine
end

section
/-! SUPPORT. The cycle-budget loop (70_reset_and_hazards R306): a turn of it, the core steps it takes, and that it ends. -/

namespace Sys2Proof.Machine
open Sys2Proof.Claims

variable {s t : State}

/-- With the loop next, a step is a core step while the ticks are below the goal, the loop staying next; else the loop is over
(R306). -/
theorem step_of_executing {rest : List Event} (hp : s.host.pending = .executing :: rest) :
    step s = if s.clockticks < s.clockgoal then cpuStep s else .next (s.setHost { s.host with pending := rest }) := by
  have hback : s.setHost { s.host with pending := .executing :: rest } = s := by
    rw [← hp]
    rfl
  calc step s = executeTurn (s.setHost { s.host with pending := rest }) := step_of_enabled hp rfl
    _ = if s.clockticks < s.clockgoal then cpuStep (s.setHost { s.host with pending := .executing :: rest })
        else .next (s.setHost { s.host with pending := rest }) := rfl
    _ = _ := by rw [hback]

/-- The state in which the loop of an `execute` is what happens next. -/
def looping (s : State) : State := s.setHost { s.host with pending := .executing :: s.host.pending }

theorem step_looping (s : State) :
    step (looping s) = if s.clockticks < s.clockgoal then cpuStep (looping s) else .next s :=
  step_of_executing (s := looping s) rfl

/-- A core step does the same while the loop is still to do: it neither reads nor changes the host's side (R283, R285). -/
theorem cpuStep_looping (h : cpuStep s = .next t) : cpuStep (looping s) = .next (looping t) := by
  obtain ⟨-, -, hhost, -⟩ := exec_controllerKept h
  rw [looping, looping, hhost]
  exact exec_setHost _ h

/-- Core steps below the goal, until it is reached, are as many turns of the loop, and one more turn ends it (R306). -/
theorem machineSteps_of_coreSteps (n : Nat) (h : coreSteps n s t) (hreached : t.clockgoal ≤ t.clockticks) :
    machineSteps (n + 1) (looping s) t := by
  induction n generalizing s with
  | zero =>
    cases h
    exact ⟨t, (step_looping t).trans (if_neg (Nat.not_lt.2 hreached)), rfl⟩
  | succ n ih =>
    obtain ⟨hbelow, u, hu, hrest⟩ := h
    exact ⟨looping u, (step_looping s).trans ((if_pos hbelow).trans (cpuStep_looping hu)), ih hrest⟩

/-- With unbounded counters and base costs of at least 1 a core step raises the ticks (R310, R311; D18). -/
theorem clockticks_lt_of_cpuStep (hwidth : s.params.cntWidth = none) (hcost : ∀ op, 1 ≤ cycles s.params.cycles op)
    (h : cpuStep s = .next t) : s.clockticks < t.clockticks := by
  obtain ⟨extra, -, hticks⟩ := exec_clockticks h
  rw [hwidth, wrapCount_none] at hticks
  have := hcost (fetchInstr s).opcode
  omega

/-- Then core steps reach the goal, at most as many as the ticks are below it, and leave goal, controller and host's side alone: by
induction on `d`, a bound for how far the ticks are below the goal. -/
theorem exists_coreSteps (d : Nat) (hd : s.clockgoal - s.clockticks ≤ d) (hwidth : s.params.cntWidth = none)
    (hcost : ∀ op, 1 ≤ cycles s.params.cycles op) :
    ∃ n t, coreSteps n s t ∧ t.clockgoal = s.clockgoal ∧ t.clockgoal ≤ t.clockticks ∧ n ≤ s.clockgoal - s.clockticks ∧
      t.ctl = s.ctl ∧ t.host = s.host := by
  induction d generalizing s with
  | zero => exact ⟨0, s, rfl, rfl, by omega, by omega, rfl, rfl⟩
  | succ d ih =>
    by_cases hreached : s.clockgoal ≤ s.clockticks
    · exact ⟨0, s, rfl, rfl, hreached, by omega, rfl, rfl⟩
    · obtain ⟨u, hu⟩ := cpuStep_next s
      obtain ⟨hgoal, hctl, hhost, hparams⟩ := exec_controllerKept hu
      have hticks := clockticks_lt_of_cpuStep hwidth hcost hu
      obtain ⟨n, t, hsteps, htgoal, htreached, hn, htctl, hthost⟩ :=
        ih (s := u) (by omega) (hparams ▸ hwidth) (hparams ▸ hcost)
      exact ⟨n + 1, t, ⟨by omega, u, hu, hsteps⟩, htgoal.trans hgoal, htreached, by omega, htctl.trans hctl,
        hthost.trans hhost⟩

/-- Settles O54: the event starts the loop, `machineSteps_of_coreSteps` says what the loop does, and `exists_coreSteps` that it
ends. -/
theorem executeReachesItsGoal : Obligations.ExecuteReachesItsGoal := by
  refine ⟨fun budget => eventLeads_of_fire (fun _ => rfl) fun s => ⟨execute budget s, rfl, rfl⟩,
    fun s rest hp => ⟨fun hbelow => ?turn, fun hreached => ?finished⟩, fun budget s rest hp hwidth hcost => ?ends⟩
  case turn => rw [step_of_executing hp, if_pos hbelow]
  case finished =>
    rw [step_of_executing hp, if_neg (Nat.not_lt.2 hreached)]
    rfl
  case ends =>
    obtain ⟨n, t, hsteps, hgoal, hreached, hn, hctl, hhost⟩ := exists_coreSteps
      (s := { s with clockgoal := s.clockgoal + budget, host := { s.host with pending := rest } }) _ le_rfl hwidth hcost
    have hstart : step s =
        .next (looping { s with clockgoal := s.clockgoal + budget, host := { s.host with pending := rest } }) := by
      rw [step_of_enabled hp rfl, fire, execute, State.setHost_params, hwidth]
      rfl
    exact ⟨n, t, hsteps, hgoal, hreached, hn, hctl, hhost, _, hstart, machineSteps_of_coreSteps n hsteps hreached⟩

end Sys2Proof.Machine
end
